-- ==== Sys2Proof/Word.lean ====
section
/-! DEFINITION. The word types of the machine: an 8-bit byte (every register and memory cell) and a 16-bit address
(00_scope.md R5, R6; 20_memory.md R50). -/

namespace Sys2Proof

/-- An 8-bit value, bit 0 least significant (00_scope.md R6). -/
abbrev Byte := BitVec 8

/-- A 16-bit address (00_scope.md R5, `ADDRW`). -/
abbrev Addr := BitVec 16

end Sys2Proof
end

