-- ==== Sys2Proof/Config.lean ====
section
/-! DEFINITION. What the spec leaves to the implementation or to the environment: the OPEN parameters that are
fixed for a run (00_scope.md R5), with their domains, and the free values drawn during a run (00_scope.md R7
`draw`), which have no body: no proof can know one. -/

namespace Sys2Proof

/-- `BRK_PUSH_I` (00_scope.md R5; 43_control_flow.md R197): bit 2 of the status byte BRK pushes is 1 (`set`, the
source) or the I of before the BRK (`old`). -/
inductive BrkPushI where
  | set
  | old
deriving DecidableEq, Repr

/-- `OPC80_FORM` (00_scope.md R5; 30_encoding.md R103): opcode 0x80 is a one-byte NOP (`implied1`, the source) or a
two-byte NOP (`immediate2`). -/
inductive Opc80Form where
  | implied1
  | immediate2
deriving DecidableEq, Repr

/-- `JAM3_FORM` (00_scope.md R5; 30_encoding.md R102): opcodes 0x82, 0xC2, 0xE2 are HLT (`hlt`, the source's table)
or two-byte NOPs (`nopImmediate2`). -/
inductive Jam3Form where
  | hlt
  | nopImmediate2
deriving DecidableEq, Repr

/-- The OPEN parameters of 00_scope.md R5 that are constant during a run. "Named parameters the model takes as
arguments": the machine's State carries one value of this type, and no step changes it (log 1). -/
structure Params where
  /-- `BRK_PUSH_I` (log 2). -/
  brkPushI : BrkPushI
  /-- `OPC80_FORM` (log 3). -/
  opc80Form : Opc80Form
  /-- `JAM3_FORM` (log 4). -/
  jam3Form : Jam3Form
  /-- `LXA_CONST`, 8 bits (47_undoc_immediate.md R244; log 5). -/
  lxaConst : Byte
  /-- `SH_UNSTABLE` (46_undoc_load_store.md R233; log 6). -/
  shUnstable : Bool
deriving DecidableEq, Repr

/-- The source's value of each parameter: "nominal", "default" or "source" in the table of 00_scope.md R5. State.reset
holds these (DESIGN CHOICE, log 1 to log 6); every statement about the machine holds for all parameters. -/
def Params.nominal : Params where
  brkPushI := .set
  opc80Form := .implied1
  jam3Form := .hlt
  lxaConst := 0xEE
  shUnstable := false

namespace Config

/-- Free value: the n-th draw of the byte whose bits 4 and 0 are the ANE mask (47_undoc_immediate.md R242; log 7). -/
opaque aneDraw : Nat → Byte

/-- Free value: whether, at the n-th draw, an SH store drops its `and h` term; read only when `SH_UNSTABLE` is true
(46_undoc_load_store.md R233; log 6). -/
opaque shTermDropped : Nat → Bool

/-- Free value: A after a RESET event (`RESET_A`, 70_reset_and_hazards.md R290; log 10). -/
opaque resetA : Nat → Byte

/-- Free value: X after a RESET event (`RESET_X`; log 10). -/
opaque resetX : Nat → Byte

/-- Free value: Y after a RESET event (`RESET_Y`; log 10). -/
opaque resetY : Nat → Byte

/-- Free value: S after a RESET event (`RESET_S`; log 10). -/
opaque resetS : Nat → Byte

/-- Free value: N after a RESET event (`RESET_N`; log 10). -/
opaque resetN : Nat → Bool

/-- Free value: V after a RESET event (`RESET_V`; log 10). -/
opaque resetV : Nat → Bool

/-- Free value: D after a RESET event (`RESET_D`; log 10). -/
opaque resetD : Nat → Bool

/-- Free value: Z after a RESET event (`RESET_Z`; log 10). -/
opaque resetZ : Nat → Bool

/-- Free value: C after a RESET event (`RESET_C`; log 10). -/
opaque resetC : Nat → Bool

end Config

end Sys2Proof
end

