-- ==== Sys2Proof/Syntax.lean ====
section
/-! DEFINITION. The instructions: one constructor per row of spec/opcode_table.json (30_encoding.md R99), 256 of them, and
one for each `alt` member of the rows 0x80, 0x82, 0xC2, 0xE2, the two-byte NOP that opcode is under the second value
of its parameter (30_encoding.md R102, R103). The operands are the operand bytes `b1`, `b2` of the format, used whole
(30_encoding.md R81, R83).

Names: the mnemonic in lower case, then the mode id of 30_encoding.md R82 where the mnemonic has several opcodes; where
one mnemonic and mode have several opcodes (NOP, HLT, ANC, SBC immediate), the opcode value in place of the mode.

Order: format L3, then L2, then L1 (Lean's runtime admits no more than 244 constructors with fields, and these come
first). -/

namespace Sys2Proof

/-- One instruction with its operand bytes. -/
inductive Instr where
  /-- 0x0C, NOP abs (R217, mode R90). -/
  | nop0C (b1 b2 : Byte)
  /-- 0x0D, ORA abs (R170, mode R90). -/
  | oraAbs (b1 b2 : Byte)
  /-- 0x0E, ASL abs (R181, mode R90). -/
  | aslAbs (b1 b2 : Byte)
  /-- 0x0F, ASO abs (R221, mode R90). -/
  | asoAbs (b1 b2 : Byte)
  /-- 0x19, ORA aby (R170, mode R92). -/
  | oraAby (b1 b2 : Byte)
  /-- 0x1B, ASO aby (R221, mode R92). -/
  | asoAby (b1 b2 : Byte)
  /-- 0x1C, NOP abx (R217, mode R91). -/
  | nop1C (b1 b2 : Byte)
  /-- 0x1D, ORA abx (R170, mode R91). -/
  | oraAbx (b1 b2 : Byte)
  /-- 0x1E, ASL abx (R181, mode R91). -/
  | aslAbx (b1 b2 : Byte)
  /-- 0x1F, ASO abx (R221, mode R91). -/
  | asoAbx (b1 b2 : Byte)
  /-- 0x20, JSR adr (R201, mode R96). -/
  | jsr (b1 b2 : Byte)
  /-- 0x2C, BIT abs (R159, mode R90). -/
  | bitAbs (b1 b2 : Byte)
  /-- 0x2D, AND abs (R158, mode R90). -/
  | andAbs (b1 b2 : Byte)
  /-- 0x2E, ROL abs (R183, mode R90). -/
  | rolAbs (b1 b2 : Byte)
  /-- 0x2F, RLA abs (R225, mode R90). -/
  | rlaAbs (b1 b2 : Byte)
  /-- 0x39, AND aby (R158, mode R92). -/
  | andAby (b1 b2 : Byte)
  /-- 0x3B, RLA aby (R225, mode R92). -/
  | rlaAby (b1 b2 : Byte)
  /-- 0x3C, NOP abx (R217, mode R91). -/
  | nop3C (b1 b2 : Byte)
  /-- 0x3D, AND abx (R158, mode R91). -/
  | andAbx (b1 b2 : Byte)
  /-- 0x3E, ROL abx (R183, mode R91). -/
  | rolAbx (b1 b2 : Byte)
  /-- 0x3F, RLA abx (R225, mode R91). -/
  | rlaAbx (b1 b2 : Byte)
  /-- 0x4C, JMP adr (R200, mode R96). -/
  | jmpAdr (b1 b2 : Byte)
  /-- 0x4D, EOR abs (R166, mode R90). -/
  | eorAbs (b1 b2 : Byte)
  /-- 0x4E, LSR abs (R182, mode R90). -/
  | lsrAbs (b1 b2 : Byte)
  /-- 0x4F, LSE abs (R224, mode R90). -/
  | lseAbs (b1 b2 : Byte)
  /-- 0x59, EOR aby (R166, mode R92). -/
  | eorAby (b1 b2 : Byte)
  /-- 0x5B, LSE aby (R224, mode R92). -/
  | lseAby (b1 b2 : Byte)
  /-- 0x5C, NOP abx (R217, mode R91). -/
  | nop5C (b1 b2 : Byte)
  /-- 0x5D, EOR abx (R166, mode R91). -/
  | eorAbx (b1 b2 : Byte)
  /-- 0x5E, LSR abx (R182, mode R91). -/
  | lsrAbx (b1 b2 : Byte)
  /-- 0x5F, LSE abx (R224, mode R91). -/
  | lseAbx (b1 b2 : Byte)
  /-- 0x6C, JMP ind (R200, mode R97). -/
  | jmpInd (b1 b2 : Byte)
  /-- 0x6D, ADC abs (R157, mode R90). -/
  | adcAbs (b1 b2 : Byte)
  /-- 0x6E, ROR abs (R184, mode R90). -/
  | rorAbs (b1 b2 : Byte)
  /-- 0x6F, RRA abs (R226, mode R90). -/
  | rraAbs (b1 b2 : Byte)
  /-- 0x79, ADC aby (R157, mode R92). -/
  | adcAby (b1 b2 : Byte)
  /-- 0x7B, RRA aby (R226, mode R92). -/
  | rraAby (b1 b2 : Byte)
  /-- 0x7C, NOP abx (R217, mode R91). -/
  | nop7C (b1 b2 : Byte)
  /-- 0x7D, ADC abx (R157, mode R91). -/
  | adcAbx (b1 b2 : Byte)
  /-- 0x7E, ROR abx (R184, mode R91). -/
  | rorAbx (b1 b2 : Byte)
  /-- 0x7F, RRA abx (R226, mode R91). -/
  | rraAbx (b1 b2 : Byte)
  /-- 0x8C, STY abs (R139, mode R90). -/
  | styAbs (b1 b2 : Byte)
  /-- 0x8D, STA abs (R137, mode R90). -/
  | staAbs (b1 b2 : Byte)
  /-- 0x8E, STX abs (R138, mode R90). -/
  | stxAbs (b1 b2 : Byte)
  /-- 0x8F, SAX abs (R232, mode R90). -/
  | saxAbs (b1 b2 : Byte)
  /-- 0x99, STA aby (R137, mode R92). -/
  | staAby (b1 b2 : Byte)
  /-- 0x9B, SHS aby (R235, mode R92). -/
  | shs (b1 b2 : Byte)
  /-- 0x9C, SHY abx (R237, mode R91). -/
  | shy (b1 b2 : Byte)
  /-- 0x9D, STA abx (R137, mode R91). -/
  | staAbx (b1 b2 : Byte)
  /-- 0x9E, SHX aby (R236, mode R92). -/
  | shx (b1 b2 : Byte)
  /-- 0x9F, SHA aby (R234, mode R92). -/
  | shaAby (b1 b2 : Byte)
  /-- 0xAC, LDY abs (R132, mode R90). -/
  | ldyAbs (b1 b2 : Byte)
  /-- 0xAD, LDA abs (R130, mode R90). -/
  | ldaAbs (b1 b2 : Byte)
  /-- 0xAE, LDX abs (R131, mode R90). -/
  | ldxAbs (b1 b2 : Byte)
  /-- 0xAF, LAX abs (R231, mode R90). -/
  | laxAbs (b1 b2 : Byte)
  /-- 0xB9, LDA aby (R130, mode R92). -/
  | ldaAby (b1 b2 : Byte)
  /-- 0xBB, LAS aby (R230, mode R92). -/
  | las (b1 b2 : Byte)
  /-- 0xBC, LDY abx (R132, mode R91). -/
  | ldyAbx (b1 b2 : Byte)
  /-- 0xBD, LDA abx (R130, mode R91). -/
  | ldaAbx (b1 b2 : Byte)
  /-- 0xBE, LDX aby (R131, mode R92). -/
  | ldxAby (b1 b2 : Byte)
  /-- 0xBF, LAX aby (R231, mode R92). -/
  | laxAby (b1 b2 : Byte)
  /-- 0xCC, CPY abs (R162, mode R90). -/
  | cpyAbs (b1 b2 : Byte)
  /-- 0xCD, CMP abs (R160, mode R90). -/
  | cmpAbs (b1 b2 : Byte)
  /-- 0xCE, DEC abs (R163, mode R90). -/
  | decAbs (b1 b2 : Byte)
  /-- 0xCF, DCM abs (R222, mode R90). -/
  | dcmAbs (b1 b2 : Byte)
  /-- 0xD9, CMP aby (R160, mode R92). -/
  | cmpAby (b1 b2 : Byte)
  /-- 0xDB, DCM aby (R222, mode R92). -/
  | dcmAby (b1 b2 : Byte)
  /-- 0xDC, NOP abx (R217, mode R91). -/
  | nopDC (b1 b2 : Byte)
  /-- 0xDD, CMP abx (R160, mode R91). -/
  | cmpAbx (b1 b2 : Byte)
  /-- 0xDE, DEC abx (R163, mode R91). -/
  | decAbx (b1 b2 : Byte)
  /-- 0xDF, DCM abx (R222, mode R91). -/
  | dcmAbx (b1 b2 : Byte)
  /-- 0xEC, CPX abs (R161, mode R90). -/
  | cpxAbs (b1 b2 : Byte)
  /-- 0xED, SBC abs (R171, mode R90). -/
  | sbcAbs (b1 b2 : Byte)
  /-- 0xEE, INC abs (R167, mode R90). -/
  | incAbs (b1 b2 : Byte)
  /-- 0xEF, INS abs (R223, mode R90). -/
  | insAbs (b1 b2 : Byte)
  /-- 0xF9, SBC aby (R171, mode R92). -/
  | sbcAby (b1 b2 : Byte)
  /-- 0xFB, INS aby (R223, mode R92). -/
  | insAby (b1 b2 : Byte)
  /-- 0xFC, NOP abx (R217, mode R91). -/
  | nopFC (b1 b2 : Byte)
  /-- 0xFD, SBC abx (R171, mode R91). -/
  | sbcAbx (b1 b2 : Byte)
  /-- 0xFE, INC abx (R167, mode R91). -/
  | incAbx (b1 b2 : Byte)
  /-- 0xFF, INS abx (R223, mode R91). -/
  | insAbx (b1 b2 : Byte)
  /-- 0x00, BRK imm (R197, mode R86). -/
  | brk (b1 : Byte)
  /-- 0x01, ORA izx (R170, mode R93). -/
  | oraIzx (b1 : Byte)
  /-- 0x03, ASO izx (R221, mode R93). -/
  | asoIzx (b1 : Byte)
  /-- 0x04, NOP zp (R217, mode R87). -/
  | nop04 (b1 : Byte)
  /-- 0x05, ORA zp (R170, mode R87). -/
  | oraZp (b1 : Byte)
  /-- 0x06, ASL zp (R181, mode R87). -/
  | aslZp (b1 : Byte)
  /-- 0x07, ASO zp (R221, mode R87). -/
  | asoZp (b1 : Byte)
  /-- 0x09, ORA imm (R170, mode R86). -/
  | oraImm (b1 : Byte)
  /-- 0x0B, ANC imm (R241, mode R86). -/
  | anc0B (b1 : Byte)
  /-- 0x10, BPL rel (R196, mode R95). -/
  | bpl (b1 : Byte)
  /-- 0x11, ORA izy (R170, mode R94). -/
  | oraIzy (b1 : Byte)
  /-- 0x13, ASO izy (R221, mode R94). -/
  | asoIzy (b1 : Byte)
  /-- 0x14, NOP zpx (R217, mode R88). -/
  | nop14 (b1 : Byte)
  /-- 0x15, ORA zpx (R170, mode R88). -/
  | oraZpx (b1 : Byte)
  /-- 0x16, ASL zpx (R181, mode R88). -/
  | aslZpx (b1 : Byte)
  /-- 0x17, ASO zpx (R221, mode R88). -/
  | asoZpx (b1 : Byte)
  /-- 0x21, AND izx (R158, mode R93). -/
  | andIzx (b1 : Byte)
  /-- 0x23, RLA izx (R225, mode R93). -/
  | rlaIzx (b1 : Byte)
  /-- 0x24, BIT zp (R159, mode R87). -/
  | bitZp (b1 : Byte)
  /-- 0x25, AND zp (R158, mode R87). -/
  | andZp (b1 : Byte)
  /-- 0x26, ROL zp (R183, mode R87). -/
  | rolZp (b1 : Byte)
  /-- 0x27, RLA zp (R225, mode R87). -/
  | rlaZp (b1 : Byte)
  /-- 0x29, AND imm (R158, mode R86). -/
  | andImm (b1 : Byte)
  /-- 0x2B, ANC imm (R241, mode R86). -/
  | anc2B (b1 : Byte)
  /-- 0x30, BMI rel (R194, mode R95). -/
  | bmi (b1 : Byte)
  /-- 0x31, AND izy (R158, mode R94). -/
  | andIzy (b1 : Byte)
  /-- 0x33, RLA izy (R225, mode R94). -/
  | rlaIzy (b1 : Byte)
  /-- 0x34, NOP zpx (R217, mode R88). -/
  | nop34 (b1 : Byte)
  /-- 0x35, AND zpx (R158, mode R88). -/
  | andZpx (b1 : Byte)
  /-- 0x36, ROL zpx (R183, mode R88). -/
  | rolZpx (b1 : Byte)
  /-- 0x37, RLA zpx (R225, mode R88). -/
  | rlaZpx (b1 : Byte)
  /-- 0x41, EOR izx (R166, mode R93). -/
  | eorIzx (b1 : Byte)
  /-- 0x43, LSE izx (R224, mode R93). -/
  | lseIzx (b1 : Byte)
  /-- 0x44, NOP zp (R217, mode R87). -/
  | nop44 (b1 : Byte)
  /-- 0x45, EOR zp (R166, mode R87). -/
  | eorZp (b1 : Byte)
  /-- 0x46, LSR zp (R182, mode R87). -/
  | lsrZp (b1 : Byte)
  /-- 0x47, LSE zp (R224, mode R87). -/
  | lseZp (b1 : Byte)
  /-- 0x49, EOR imm (R166, mode R86). -/
  | eorImm (b1 : Byte)
  /-- 0x4B, ALR imm (R240, mode R86). -/
  | alr (b1 : Byte)
  /-- 0x50, BVC rel (R198, mode R95). -/
  | bvc (b1 : Byte)
  /-- 0x51, EOR izy (R166, mode R94). -/
  | eorIzy (b1 : Byte)
  /-- 0x53, LSE izy (R224, mode R94). -/
  | lseIzy (b1 : Byte)
  /-- 0x54, NOP zpx (R217, mode R88). -/
  | nop54 (b1 : Byte)
  /-- 0x55, EOR zpx (R166, mode R88). -/
  | eorZpx (b1 : Byte)
  /-- 0x56, LSR zpx (R182, mode R88). -/
  | lsrZpx (b1 : Byte)
  /-- 0x57, LSE zpx (R224, mode R88). -/
  | lseZpx (b1 : Byte)
  /-- 0x61, ADC izx (R157, mode R93). -/
  | adcIzx (b1 : Byte)
  /-- 0x63, RRA izx (R226, mode R93). -/
  | rraIzx (b1 : Byte)
  /-- 0x64, NOP zp (R217, mode R87). -/
  | nop64 (b1 : Byte)
  /-- 0x65, ADC zp (R157, mode R87). -/
  | adcZp (b1 : Byte)
  /-- 0x66, ROR zp (R184, mode R87). -/
  | rorZp (b1 : Byte)
  /-- 0x67, RRA zp (R226, mode R87). -/
  | rraZp (b1 : Byte)
  /-- 0x69, ADC imm (R157, mode R86). -/
  | adcImm (b1 : Byte)
  /-- 0x6B, ARR imm (R243, mode R86). -/
  | arr (b1 : Byte)
  /-- 0x70, BVS rel (R199, mode R95). -/
  | bvs (b1 : Byte)
  /-- 0x71, ADC izy (R157, mode R94). -/
  | adcIzy (b1 : Byte)
  /-- 0x73, RRA izy (R226, mode R94). -/
  | rraIzy (b1 : Byte)
  /-- 0x74, NOP zpx (R217, mode R88). -/
  | nop74 (b1 : Byte)
  /-- 0x75, ADC zpx (R157, mode R88). -/
  | adcZpx (b1 : Byte)
  /-- 0x76, ROR zpx (R184, mode R88). -/
  | rorZpx (b1 : Byte)
  /-- 0x77, RRA zpx (R226, mode R88). -/
  | rraZpx (b1 : Byte)
  /-- 0x81, STA izx (R137, mode R93). -/
  | staIzx (b1 : Byte)
  /-- 0x83, SAX izx (R232, mode R93). -/
  | saxIzx (b1 : Byte)
  /-- 0x84, STY zp (R139, mode R87). -/
  | styZp (b1 : Byte)
  /-- 0x85, STA zp (R137, mode R87). -/
  | staZp (b1 : Byte)
  /-- 0x86, STX zp (R138, mode R87). -/
  | stxZp (b1 : Byte)
  /-- 0x87, SAX zp (R232, mode R87). -/
  | saxZp (b1 : Byte)
  /-- 0x89, NOP imm (R217, mode R86). -/
  | nop89 (b1 : Byte)
  /-- 0x8B, ANE imm (R242, mode R86). -/
  | ane (b1 : Byte)
  /-- 0x90, BCC rel (R191, mode R95). -/
  | bcc (b1 : Byte)
  /-- 0x91, STA izy (R137, mode R94). -/
  | staIzy (b1 : Byte)
  /-- 0x93, SHA izy (R234, mode R94). -/
  | shaIzy (b1 : Byte)
  /-- 0x94, STY zpx (R139, mode R88). -/
  | styZpx (b1 : Byte)
  /-- 0x95, STA zpx (R137, mode R88). -/
  | staZpx (b1 : Byte)
  /-- 0x96, STX zpy (R138, mode R89). -/
  | stxZpy (b1 : Byte)
  /-- 0x97, SAX zpy (R232, mode R89). -/
  | saxZpy (b1 : Byte)
  /-- 0xA0, LDY imm (R132, mode R86). -/
  | ldyImm (b1 : Byte)
  /-- 0xA1, LDA izx (R130, mode R93). -/
  | ldaIzx (b1 : Byte)
  /-- 0xA2, LDX imm (R131, mode R86). -/
  | ldxImm (b1 : Byte)
  /-- 0xA3, LAX izx (R231, mode R93). -/
  | laxIzx (b1 : Byte)
  /-- 0xA4, LDY zp (R132, mode R87). -/
  | ldyZp (b1 : Byte)
  /-- 0xA5, LDA zp (R130, mode R87). -/
  | ldaZp (b1 : Byte)
  /-- 0xA6, LDX zp (R131, mode R87). -/
  | ldxZp (b1 : Byte)
  /-- 0xA7, LAX zp (R231, mode R87). -/
  | laxZp (b1 : Byte)
  /-- 0xA9, LDA imm (R130, mode R86). -/
  | ldaImm (b1 : Byte)
  /-- 0xAB, LXA imm (R244, mode R86). -/
  | lxa (b1 : Byte)
  /-- 0xB0, BCS rel (R192, mode R95). -/
  | bcs (b1 : Byte)
  /-- 0xB1, LDA izy (R130, mode R94). -/
  | ldaIzy (b1 : Byte)
  /-- 0xB3, LAX izy (R231, mode R94). -/
  | laxIzy (b1 : Byte)
  /-- 0xB4, LDY zpx (R132, mode R88). -/
  | ldyZpx (b1 : Byte)
  /-- 0xB5, LDA zpx (R130, mode R88). -/
  | ldaZpx (b1 : Byte)
  /-- 0xB6, LDX zpy (R131, mode R89). -/
  | ldxZpy (b1 : Byte)
  /-- 0xB7, LAX zpy (R231, mode R89). -/
  | laxZpy (b1 : Byte)
  /-- 0xC0, CPY imm (R162, mode R86). -/
  | cpyImm (b1 : Byte)
  /-- 0xC1, CMP izx (R160, mode R93). -/
  | cmpIzx (b1 : Byte)
  /-- 0xC3, DCM izx (R222, mode R93). -/
  | dcmIzx (b1 : Byte)
  /-- 0xC4, CPY zp (R162, mode R87). -/
  | cpyZp (b1 : Byte)
  /-- 0xC5, CMP zp (R160, mode R87). -/
  | cmpZp (b1 : Byte)
  /-- 0xC6, DEC zp (R163, mode R87). -/
  | decZp (b1 : Byte)
  /-- 0xC7, DCM zp (R222, mode R87). -/
  | dcmZp (b1 : Byte)
  /-- 0xC9, CMP imm (R160, mode R86). -/
  | cmpImm (b1 : Byte)
  /-- 0xCB, SBX imm (R245, mode R86). -/
  | sbx (b1 : Byte)
  /-- 0xD0, BNE rel (R195, mode R95). -/
  | bne (b1 : Byte)
  /-- 0xD1, CMP izy (R160, mode R94). -/
  | cmpIzy (b1 : Byte)
  /-- 0xD3, DCM izy (R222, mode R94). -/
  | dcmIzy (b1 : Byte)
  /-- 0xD4, NOP zpx (R217, mode R88). -/
  | nopD4 (b1 : Byte)
  /-- 0xD5, CMP zpx (R160, mode R88). -/
  | cmpZpx (b1 : Byte)
  /-- 0xD6, DEC zpx (R163, mode R88). -/
  | decZpx (b1 : Byte)
  /-- 0xD7, DCM zpx (R222, mode R88). -/
  | dcmZpx (b1 : Byte)
  /-- 0xE0, CPX imm (R161, mode R86). -/
  | cpxImm (b1 : Byte)
  /-- 0xE1, SBC izx (R171, mode R93). -/
  | sbcIzx (b1 : Byte)
  /-- 0xE3, INS izx (R223, mode R93). -/
  | insIzx (b1 : Byte)
  /-- 0xE4, CPX zp (R161, mode R87). -/
  | cpxZp (b1 : Byte)
  /-- 0xE5, SBC zp (R171, mode R87). -/
  | sbcZp (b1 : Byte)
  /-- 0xE6, INC zp (R167, mode R87). -/
  | incZp (b1 : Byte)
  /-- 0xE7, INS zp (R223, mode R87). -/
  | insZp (b1 : Byte)
  /-- 0xE9, SBC imm (R171, mode R86). -/
  | sbcImm (b1 : Byte)
  /-- 0xEB, SBC imm (R171, mode R86). -/
  | sbcImmEB (b1 : Byte)
  /-- 0xF0, BEQ rel (R193, mode R95). -/
  | beq (b1 : Byte)
  /-- 0xF1, SBC izy (R171, mode R94). -/
  | sbcIzy (b1 : Byte)
  /-- 0xF3, INS izy (R223, mode R94). -/
  | insIzy (b1 : Byte)
  /-- 0xF4, NOP zpx (R217, mode R88). -/
  | nopF4 (b1 : Byte)
  /-- 0xF5, SBC zpx (R171, mode R88). -/
  | sbcZpx (b1 : Byte)
  /-- 0xF6, INC zpx (R167, mode R88). -/
  | incZpx (b1 : Byte)
  /-- 0xF7, INS zpx (R223, mode R88). -/
  | insZpx (b1 : Byte)
  /-- 0x80, NOP imm under `OPC80_FORM = immediate2` (R217, mode R86). -/
  | nop80Imm (b1 : Byte)
  /-- 0x82, NOP imm under `JAM3_FORM = nop_immediate2` (R217, mode R86). -/
  | nop82Imm (b1 : Byte)
  /-- 0xC2, NOP imm under `JAM3_FORM = nop_immediate2` (R217, mode R86). -/
  | nopC2Imm (b1 : Byte)
  /-- 0xE2, NOP imm under `JAM3_FORM = nop_immediate2` (R217, mode R86). -/
  | nopE2Imm (b1 : Byte)
  /-- 0x02, HLT imp (R218, mode R84). -/
  | hlt02
  /-- 0x08, PHP imp (R134, mode R84). -/
  | php
  /-- 0x0A, ASL acc (R181, mode R85). -/
  | aslAcc
  /-- 0x12, HLT imp (R218, mode R84). -/
  | hlt12
  /-- 0x18, CLC imp (R210, mode R84). -/
  | clc
  /-- 0x1A, NOP imp (R217, mode R84). -/
  | nop1A
  /-- 0x22, HLT imp (R218, mode R84). -/
  | hlt22
  /-- 0x28, PLP imp (R136, mode R84). -/
  | plp
  /-- 0x2A, ROL acc (R183, mode R85). -/
  | rolAcc
  /-- 0x32, HLT imp (R218, mode R84). -/
  | hlt32
  /-- 0x38, SEC imp (R214, mode R84). -/
  | sec
  /-- 0x3A, NOP imp (R217, mode R84). -/
  | nop3A
  /-- 0x40, RTI imp (R202, mode R84). -/
  | rti
  /-- 0x42, HLT imp (R218, mode R84). -/
  | hlt42
  /-- 0x48, PHA imp (R133, mode R84). -/
  | pha
  /-- 0x4A, LSR acc (R182, mode R85). -/
  | lsrAcc
  /-- 0x52, HLT imp (R218, mode R84). -/
  | hlt52
  /-- 0x58, CLI imp (R212, mode R84). -/
  | cli
  /-- 0x5A, NOP imp (R217, mode R84). -/
  | nop5A
  /-- 0x60, RTS imp (R203, mode R84). -/
  | rts
  /-- 0x62, HLT imp (R218, mode R84). -/
  | hlt62
  /-- 0x68, PLA imp (R135, mode R84). -/
  | pla
  /-- 0x6A, ROR acc (R184, mode R85). -/
  | rorAcc
  /-- 0x72, HLT imp (R218, mode R84). -/
  | hlt72
  /-- 0x78, SEI imp (R216, mode R84). -/
  | sei
  /-- 0x7A, NOP imp (R217, mode R84). -/
  | nop7A
  /-- 0x80, NOP imp (R217, mode R84). -/
  | nop80
  /-- 0x82, HLT imp (R218, mode R84). -/
  | hlt82
  /-- 0x88, DEY imp (R165, mode R84). -/
  | dey
  /-- 0x8A, TXA imp (R143, mode R84). -/
  | txa
  /-- 0x92, HLT imp (R218, mode R84). -/
  | hlt92
  /-- 0x98, TYA imp (R145, mode R84). -/
  | tya
  /-- 0x9A, TXS imp (R144, mode R84). -/
  | txs
  /-- 0xA8, TAY imp (R141, mode R84). -/
  | tay
  /-- 0xAA, TAX imp (R140, mode R84). -/
  | tax
  /-- 0xB2, HLT imp (R218, mode R84). -/
  | hltB2
  /-- 0xB8, CLV imp (R213, mode R84). -/
  | clv
  /-- 0xBA, TSX imp (R142, mode R84). -/
  | tsx
  /-- 0xC2, HLT imp (R218, mode R84). -/
  | hltC2
  /-- 0xC8, INY imp (R169, mode R84). -/
  | iny
  /-- 0xCA, DEX imp (R164, mode R84). -/
  | dex
  /-- 0xD2, HLT imp (R218, mode R84). -/
  | hltD2
  /-- 0xD8, CLD imp (R211, mode R84). -/
  | cld
  /-- 0xDA, NOP imp (R217, mode R84). -/
  | nopDA
  /-- 0xE2, HLT imp (R218, mode R84). -/
  | hltE2
  /-- 0xE8, INX imp (R168, mode R84). -/
  | inx
  /-- 0xEA, NOP imp (R217, mode R84). -/
  | nop
  /-- 0xF2, HLT imp (R218, mode R84). -/
  | hltF2
  /-- 0xF8, SED imp (R215, mode R84). -/
  | sed
  /-- 0xFA, NOP imp (R217, mode R84). -/
  | nopFA
deriving DecidableEq, Repr

end Sys2Proof
end

