-- ==== Sys2Proof/WellFormed.lean ====
section
/-! DEFINITION. Which instructions exist under the parameters. Every operand byte has every value (30_encoding.md R81), so
the only check is that the opcodes 0x80, 0x82, 0xC2, 0xE2 are read as the parameters say (30_encoding.md R102, R103). -/

namespace Sys2Proof

/-- The instruction is one the machine with these parameters has. -/
def Instr.wellFormed (prm : Params) : Instr → Bool
  | .nop80 => prm.opc80Form == .implied1
  | .nop80Imm _ => prm.opc80Form == .immediate2
  | .hlt82 => prm.jam3Form == .hlt
  | .hltC2 => prm.jam3Form == .hlt
  | .hltE2 => prm.jam3Form == .hlt
  | .nop82Imm _ => prm.jam3Form == .nopImmediate2
  | .nopC2Imm _ => prm.jam3Form == .nopImmediate2
  | .nopE2Imm _ => prm.jam3Form == .nopImmediate2
  | .brk _ | .oraIzx _ | .hlt02 | .asoIzx _ | .nop04 _ | .oraZp _ | .aslZp _ | .asoZp _ | .php | .oraImm _
  | .aslAcc | .anc0B _ | .nop0C _ _ | .oraAbs _ _ | .aslAbs _ _ | .asoAbs _ _ | .bpl _ | .oraIzy _ | .hlt12
  | .asoIzy _ | .nop14 _ | .oraZpx _ | .aslZpx _ | .asoZpx _ | .clc | .oraAby _ _ | .nop1A | .asoAby _ _
  | .nop1C _ _ | .oraAbx _ _ | .aslAbx _ _ | .asoAbx _ _ | .jsr _ _ | .andIzx _ | .hlt22 | .rlaIzx _ | .bitZp _
  | .andZp _ | .rolZp _ | .rlaZp _ | .plp | .andImm _ | .rolAcc | .anc2B _ | .bitAbs _ _ | .andAbs _ _
  | .rolAbs _ _ | .rlaAbs _ _ | .bmi _ | .andIzy _ | .hlt32 | .rlaIzy _ | .nop34 _ | .andZpx _ | .rolZpx _
  | .rlaZpx _ | .sec | .andAby _ _ | .nop3A | .rlaAby _ _ | .nop3C _ _ | .andAbx _ _ | .rolAbx _ _
  | .rlaAbx _ _ | .rti | .eorIzx _ | .hlt42 | .lseIzx _ | .nop44 _ | .eorZp _ | .lsrZp _ | .lseZp _ | .pha
  | .eorImm _ | .lsrAcc | .alr _ | .jmpAdr _ _ | .eorAbs _ _ | .lsrAbs _ _ | .lseAbs _ _ | .bvc _ | .eorIzy _
  | .hlt52 | .lseIzy _ | .nop54 _ | .eorZpx _ | .lsrZpx _ | .lseZpx _ | .cli | .eorAby _ _ | .nop5A
  | .lseAby _ _ | .nop5C _ _ | .eorAbx _ _ | .lsrAbx _ _ | .lseAbx _ _ | .rts | .adcIzx _ | .hlt62 | .rraIzx _
  | .nop64 _ | .adcZp _ | .rorZp _ | .rraZp _ | .pla | .adcImm _ | .rorAcc | .arr _ | .jmpInd _ _ | .adcAbs _ _
  | .rorAbs _ _ | .rraAbs _ _ | .bvs _ | .adcIzy _ | .hlt72 | .rraIzy _ | .nop74 _ | .adcZpx _ | .rorZpx _
  | .rraZpx _ | .sei | .adcAby _ _ | .nop7A | .rraAby _ _ | .nop7C _ _ | .adcAbx _ _ | .rorAbx _ _
  | .rraAbx _ _ | .staIzx _ | .saxIzx _ | .styZp _ | .staZp _ | .stxZp _ | .saxZp _ | .dey | .nop89 _ | .txa
  | .ane _ | .styAbs _ _ | .staAbs _ _ | .stxAbs _ _ | .saxAbs _ _ | .bcc _ | .staIzy _ | .hlt92 | .shaIzy _
  | .styZpx _ | .staZpx _ | .stxZpy _ | .saxZpy _ | .tya | .staAby _ _ | .txs | .shs _ _ | .shy _ _
  | .staAbx _ _ | .shx _ _ | .shaAby _ _ | .ldyImm _ | .ldaIzx _ | .ldxImm _ | .laxIzx _ | .ldyZp _ | .ldaZp _
  | .ldxZp _ | .laxZp _ | .tay | .ldaImm _ | .tax | .lxa _ | .ldyAbs _ _ | .ldaAbs _ _ | .ldxAbs _ _
  | .laxAbs _ _ | .bcs _ | .ldaIzy _ | .hltB2 | .laxIzy _ | .ldyZpx _ | .ldaZpx _ | .ldxZpy _ | .laxZpy _
  | .clv | .ldaAby _ _ | .tsx | .las _ _ | .ldyAbx _ _ | .ldaAbx _ _ | .ldxAby _ _ | .laxAby _ _ | .cpyImm _
  | .cmpIzx _ | .dcmIzx _ | .cpyZp _ | .cmpZp _ | .decZp _ | .dcmZp _ | .iny | .cmpImm _ | .dex | .sbx _
  | .cpyAbs _ _ | .cmpAbs _ _ | .decAbs _ _ | .dcmAbs _ _ | .bne _ | .cmpIzy _ | .hltD2 | .dcmIzy _ | .nopD4 _
  | .cmpZpx _ | .decZpx _ | .dcmZpx _ | .cld | .cmpAby _ _ | .nopDA | .dcmAby _ _ | .nopDC _ _ | .cmpAbx _ _
  | .decAbx _ _ | .dcmAbx _ _ | .cpxImm _ | .sbcIzx _ | .insIzx _ | .cpxZp _ | .sbcZp _ | .incZp _ | .insZp _
  | .inx | .sbcImm _ | .nop | .sbcImmEB _ | .cpxAbs _ _ | .sbcAbs _ _ | .incAbs _ _ | .insAbs _ _ | .beq _
  | .sbcIzy _ | .hltF2 | .insIzy _ | .nopF4 _ | .sbcZpx _ | .incZpx _ | .insZpx _ | .sed | .sbcAby _ _ | .nopFA
  | .insAby _ _ | .nopFC _ _ | .sbcAbx _ _ | .incAbx _ _ | .insAbx _ _ => true

end Sys2Proof
end

