-- ==== Sys2Proof/Decode.lean ====
section
/-! DEFINITION. The decoder: the opcode map of 30_encoding.md R99 as a grid, and decoding by it, total on any bytes,
rejecting by name (no opcode is illegal, R100: only missing bytes are rejected). After it the encoder, written from the
Encoding lines of the instruction rules. -/

namespace Sys2Proof

/-- How an opcode takes its operand bytes: the formats L1, L2, L3 (30_encoding.md R81). -/
inductive Form where
  /-- Format L1: the opcode byte alone. -/
  | l1 (i : Instr)
  /-- Format L2: one operand byte. -/
  | l2 (mk : Byte → Instr)
  /-- Format L3: two operand bytes. -/
  | l3 (mk : Byte → Byte → Instr)

/-- The length of an instruction of a format (30_encoding.md R81, R82). -/
def Form.length : Form → Nat
  | .l1 _ => 1
  | .l2 _ => 2
  | .l3 _ => 3

/-- Opcode 0x80: the row, or its `alt` (30_encoding.md R103). -/
def form80 : Opc80Form → Form
  | .implied1 => .l1 .nop80
  | .immediate2 => .l2 .nop80Imm

/-- Opcode 0x82: the row, or its `alt` (30_encoding.md R102). -/
def form82 : Jam3Form → Form
  | .hlt => .l1 .hlt82
  | .nopImmediate2 => .l2 .nop82Imm

/-- Opcode 0xC2: the row, or its `alt` (30_encoding.md R102). -/
def formC2 : Jam3Form → Form
  | .hlt => .l1 .hltC2
  | .nopImmediate2 => .l2 .nopC2Imm

/-- Opcode 0xE2: the row, or its `alt` (30_encoding.md R102). -/
def formE2 : Jam3Form → Form
  | .hlt => .l1 .hltE2
  | .nopImmediate2 => .l2 .nopE2Imm

/-- Row 0x of the opcode map (30_encoding.md R99). -/
def opcodeRow0 : List Form :=
  [.l2 .brk, .l2 .oraIzx, .l1 .hlt02, .l2 .asoIzx,
   .l2 .nop04, .l2 .oraZp, .l2 .aslZp, .l2 .asoZp,
   .l1 .php, .l2 .oraImm, .l1 .aslAcc, .l2 .anc0B,
   .l3 .nop0C, .l3 .oraAbs, .l3 .aslAbs, .l3 .asoAbs]

/-- Row 1x of the opcode map (30_encoding.md R99). -/
def opcodeRow1 : List Form :=
  [.l2 .bpl, .l2 .oraIzy, .l1 .hlt12, .l2 .asoIzy,
   .l2 .nop14, .l2 .oraZpx, .l2 .aslZpx, .l2 .asoZpx,
   .l1 .clc, .l3 .oraAby, .l1 .nop1A, .l3 .asoAby,
   .l3 .nop1C, .l3 .oraAbx, .l3 .aslAbx, .l3 .asoAbx]

/-- Row 2x of the opcode map (30_encoding.md R99). -/
def opcodeRow2 : List Form :=
  [.l3 .jsr, .l2 .andIzx, .l1 .hlt22, .l2 .rlaIzx,
   .l2 .bitZp, .l2 .andZp, .l2 .rolZp, .l2 .rlaZp,
   .l1 .plp, .l2 .andImm, .l1 .rolAcc, .l2 .anc2B,
   .l3 .bitAbs, .l3 .andAbs, .l3 .rolAbs, .l3 .rlaAbs]

/-- Row 3x of the opcode map (30_encoding.md R99). -/
def opcodeRow3 : List Form :=
  [.l2 .bmi, .l2 .andIzy, .l1 .hlt32, .l2 .rlaIzy,
   .l2 .nop34, .l2 .andZpx, .l2 .rolZpx, .l2 .rlaZpx,
   .l1 .sec, .l3 .andAby, .l1 .nop3A, .l3 .rlaAby,
   .l3 .nop3C, .l3 .andAbx, .l3 .rolAbx, .l3 .rlaAbx]

/-- Row 4x of the opcode map (30_encoding.md R99). -/
def opcodeRow4 : List Form :=
  [.l1 .rti, .l2 .eorIzx, .l1 .hlt42, .l2 .lseIzx,
   .l2 .nop44, .l2 .eorZp, .l2 .lsrZp, .l2 .lseZp,
   .l1 .pha, .l2 .eorImm, .l1 .lsrAcc, .l2 .alr,
   .l3 .jmpAdr, .l3 .eorAbs, .l3 .lsrAbs, .l3 .lseAbs]

/-- Row 5x of the opcode map (30_encoding.md R99). -/
def opcodeRow5 : List Form :=
  [.l2 .bvc, .l2 .eorIzy, .l1 .hlt52, .l2 .lseIzy,
   .l2 .nop54, .l2 .eorZpx, .l2 .lsrZpx, .l2 .lseZpx,
   .l1 .cli, .l3 .eorAby, .l1 .nop5A, .l3 .lseAby,
   .l3 .nop5C, .l3 .eorAbx, .l3 .lsrAbx, .l3 .lseAbx]

/-- Row 6x of the opcode map (30_encoding.md R99). -/
def opcodeRow6 : List Form :=
  [.l1 .rts, .l2 .adcIzx, .l1 .hlt62, .l2 .rraIzx,
   .l2 .nop64, .l2 .adcZp, .l2 .rorZp, .l2 .rraZp,
   .l1 .pla, .l2 .adcImm, .l1 .rorAcc, .l2 .arr,
   .l3 .jmpInd, .l3 .adcAbs, .l3 .rorAbs, .l3 .rraAbs]

/-- Row 7x of the opcode map (30_encoding.md R99). -/
def opcodeRow7 : List Form :=
  [.l2 .bvs, .l2 .adcIzy, .l1 .hlt72, .l2 .rraIzy,
   .l2 .nop74, .l2 .adcZpx, .l2 .rorZpx, .l2 .rraZpx,
   .l1 .sei, .l3 .adcAby, .l1 .nop7A, .l3 .rraAby,
   .l3 .nop7C, .l3 .adcAbx, .l3 .rorAbx, .l3 .rraAbx]

/-- Row 8x of the opcode map (30_encoding.md R99). -/
def opcodeRow8 (prm : Params) : List Form :=
  [form80 prm.opc80Form, .l2 .staIzx, form82 prm.jam3Form, .l2 .saxIzx,
   .l2 .styZp, .l2 .staZp, .l2 .stxZp, .l2 .saxZp,
   .l1 .dey, .l2 .nop89, .l1 .txa, .l2 .ane,
   .l3 .styAbs, .l3 .staAbs, .l3 .stxAbs, .l3 .saxAbs]

/-- Row 9x of the opcode map (30_encoding.md R99). -/
def opcodeRow9 : List Form :=
  [.l2 .bcc, .l2 .staIzy, .l1 .hlt92, .l2 .shaIzy,
   .l2 .styZpx, .l2 .staZpx, .l2 .stxZpy, .l2 .saxZpy,
   .l1 .tya, .l3 .staAby, .l1 .txs, .l3 .shs,
   .l3 .shy, .l3 .staAbx, .l3 .shx, .l3 .shaAby]

/-- Row Ax of the opcode map (30_encoding.md R99). -/
def opcodeRowA : List Form :=
  [.l2 .ldyImm, .l2 .ldaIzx, .l2 .ldxImm, .l2 .laxIzx,
   .l2 .ldyZp, .l2 .ldaZp, .l2 .ldxZp, .l2 .laxZp,
   .l1 .tay, .l2 .ldaImm, .l1 .tax, .l2 .lxa,
   .l3 .ldyAbs, .l3 .ldaAbs, .l3 .ldxAbs, .l3 .laxAbs]

/-- Row Bx of the opcode map (30_encoding.md R99). -/
def opcodeRowB : List Form :=
  [.l2 .bcs, .l2 .ldaIzy, .l1 .hltB2, .l2 .laxIzy,
   .l2 .ldyZpx, .l2 .ldaZpx, .l2 .ldxZpy, .l2 .laxZpy,
   .l1 .clv, .l3 .ldaAby, .l1 .tsx, .l3 .las,
   .l3 .ldyAbx, .l3 .ldaAbx, .l3 .ldxAby, .l3 .laxAby]

/-- Row Cx of the opcode map (30_encoding.md R99). -/
def opcodeRowC (prm : Params) : List Form :=
  [.l2 .cpyImm, .l2 .cmpIzx, formC2 prm.jam3Form, .l2 .dcmIzx,
   .l2 .cpyZp, .l2 .cmpZp, .l2 .decZp, .l2 .dcmZp,
   .l1 .iny, .l2 .cmpImm, .l1 .dex, .l2 .sbx,
   .l3 .cpyAbs, .l3 .cmpAbs, .l3 .decAbs, .l3 .dcmAbs]

/-- Row Dx of the opcode map (30_encoding.md R99). -/
def opcodeRowD : List Form :=
  [.l2 .bne, .l2 .cmpIzy, .l1 .hltD2, .l2 .dcmIzy,
   .l2 .nopD4, .l2 .cmpZpx, .l2 .decZpx, .l2 .dcmZpx,
   .l1 .cld, .l3 .cmpAby, .l1 .nopDA, .l3 .dcmAby,
   .l3 .nopDC, .l3 .cmpAbx, .l3 .decAbx, .l3 .dcmAbx]

/-- Row Ex of the opcode map (30_encoding.md R99). -/
def opcodeRowE (prm : Params) : List Form :=
  [.l2 .cpxImm, .l2 .sbcIzx, formE2 prm.jam3Form, .l2 .insIzx,
   .l2 .cpxZp, .l2 .sbcZp, .l2 .incZp, .l2 .insZp,
   .l1 .inx, .l2 .sbcImm, .l1 .nop, .l2 .sbcImmEB,
   .l3 .cpxAbs, .l3 .sbcAbs, .l3 .incAbs, .l3 .insAbs]

/-- Row Fx of the opcode map (30_encoding.md R99). -/
def opcodeRowF : List Form :=
  [.l2 .beq, .l2 .sbcIzy, .l1 .hltF2, .l2 .insIzy,
   .l2 .nopF4, .l2 .sbcZpx, .l2 .incZpx, .l2 .insZpx,
   .l1 .sed, .l3 .sbcAby, .l1 .nopFA, .l3 .insAby,
   .l3 .nopFC, .l3 .sbcAbx, .l3 .incAbx, .l3 .insAbx]

/-- The opcode map, row by high nibble and column by low nibble (30_encoding.md R99). -/
def opcodeGrid (prm : Params) : List (List Form) :=
  [opcodeRow0, opcodeRow1, opcodeRow2, opcodeRow3, opcodeRow4, opcodeRow5, opcodeRow6, opcodeRow7] ++
  [opcodeRow8 prm, opcodeRow9, opcodeRowA, opcodeRowB, opcodeRowC prm, opcodeRowD, opcodeRowE prm, opcodeRowF]

/-- The map's cell for an opcode byte (30_encoding.md R80: the byte alone selects it). -/
def opcodeForm (prm : Params) (op : Byte) : Option Form :=
  match (opcodeGrid prm)[op.toNat / 16]? with
  | some row => row[op.toNat % 16]?
  | none => none

/-- How many bytes an instruction with this opcode has (30_encoding.md R82). -/
def opcodeLength (prm : Params) (op : Byte) : Nat :=
  match opcodeForm prm op with
  | some f => f.length
  | none => 1

/-- Why bytes decode to no instruction. -/
inductive DecodeError where
  /-- There is no opcode byte. -/
  | noBytes
  /-- The opcode map has no cell for the byte (it has one for each of the 256, 30_encoding.md R100). -/
  | noRow (op : Byte)
  /-- An operand byte is missing. -/
  | truncated (op : Byte)
deriving DecidableEq, Repr

/-- The answer of the decoder. -/
inductive Decoded where
  /-- An instruction and the bytes after it. -/
  | instr (i : Instr) (rest : List Byte)
  /-- No instruction. -/
  | rejected (why : DecodeError)
deriving DecidableEq, Repr

/-- Decode the instruction at the front of the bytes: opcode, then `b1`, then `b2` (30_encoding.md R80, R81, R83). -/
def decode (prm : Params) : List Byte → Decoded
  | [] => .rejected .noBytes
  | op :: rest =>
    match opcodeForm prm op, rest with
    | none, _ => .rejected (.noRow op)
    | some (.l1 i), rest => .instr i rest
    | some (.l2 mk), b1 :: rest => .instr (mk b1) rest
    | some (.l3 mk), b1 :: b2 :: rest => .instr (mk b1 b2) rest
    | some _, _ => .rejected (.truncated op)

/-- Byte number `k` of an instruction whose bits are `w`, bit 0 the least significant bit of the first byte. -/
def tableByte (nbits w k : Nat) : Byte := BitVec.ofNat 8 (w % 2 ^ nbits / 2 ^ (8 * k))

/-- The bytes of an instruction whose first `nbits` bits are `w` and whose other bits are zero, up to the longest
instruction (three bytes, 30_encoding.md R82). -/
def tableBytes (nbits w : Nat) : List Byte := [tableByte nbits w 0, tableByte nbits w 1, tableByte nbits w 2]

/-- The instruction the decoder reads from an instruction whose bits are `w`, under the parameter values the rows of
spec/opcode_table.json hold for (the nominal ones). -/
def decodeTableWord (nbits w : Nat) : Option Instr :=
  match decode Params.nominal (tableBytes nbits w) with
  | .instr i _ => some i
  | .rejected _ => none

/-- The bytes of an instruction, from the Encoding line of its rule (30_encoding.md R81 for the layout). -/
def encode : Instr → List Byte
  | .brk b1 => [0x00, b1]
  | .oraIzx b1 => [0x01, b1]
  | .hlt02 => [0x02]
  | .asoIzx b1 => [0x03, b1]
  | .nop04 b1 => [0x04, b1]
  | .oraZp b1 => [0x05, b1]
  | .aslZp b1 => [0x06, b1]
  | .asoZp b1 => [0x07, b1]
  | .php => [0x08]
  | .oraImm b1 => [0x09, b1]
  | .aslAcc => [0x0A]
  | .anc0B b1 => [0x0B, b1]
  | .nop0C b1 b2 => [0x0C, b1, b2]
  | .oraAbs b1 b2 => [0x0D, b1, b2]
  | .aslAbs b1 b2 => [0x0E, b1, b2]
  | .asoAbs b1 b2 => [0x0F, b1, b2]
  | .bpl b1 => [0x10, b1]
  | .oraIzy b1 => [0x11, b1]
  | .hlt12 => [0x12]
  | .asoIzy b1 => [0x13, b1]
  | .nop14 b1 => [0x14, b1]
  | .oraZpx b1 => [0x15, b1]
  | .aslZpx b1 => [0x16, b1]
  | .asoZpx b1 => [0x17, b1]
  | .clc => [0x18]
  | .oraAby b1 b2 => [0x19, b1, b2]
  | .nop1A => [0x1A]
  | .asoAby b1 b2 => [0x1B, b1, b2]
  | .nop1C b1 b2 => [0x1C, b1, b2]
  | .oraAbx b1 b2 => [0x1D, b1, b2]
  | .aslAbx b1 b2 => [0x1E, b1, b2]
  | .asoAbx b1 b2 => [0x1F, b1, b2]
  | .jsr b1 b2 => [0x20, b1, b2]
  | .andIzx b1 => [0x21, b1]
  | .hlt22 => [0x22]
  | .rlaIzx b1 => [0x23, b1]
  | .bitZp b1 => [0x24, b1]
  | .andZp b1 => [0x25, b1]
  | .rolZp b1 => [0x26, b1]
  | .rlaZp b1 => [0x27, b1]
  | .plp => [0x28]
  | .andImm b1 => [0x29, b1]
  | .rolAcc => [0x2A]
  | .anc2B b1 => [0x2B, b1]
  | .bitAbs b1 b2 => [0x2C, b1, b2]
  | .andAbs b1 b2 => [0x2D, b1, b2]
  | .rolAbs b1 b2 => [0x2E, b1, b2]
  | .rlaAbs b1 b2 => [0x2F, b1, b2]
  | .bmi b1 => [0x30, b1]
  | .andIzy b1 => [0x31, b1]
  | .hlt32 => [0x32]
  | .rlaIzy b1 => [0x33, b1]
  | .nop34 b1 => [0x34, b1]
  | .andZpx b1 => [0x35, b1]
  | .rolZpx b1 => [0x36, b1]
  | .rlaZpx b1 => [0x37, b1]
  | .sec => [0x38]
  | .andAby b1 b2 => [0x39, b1, b2]
  | .nop3A => [0x3A]
  | .rlaAby b1 b2 => [0x3B, b1, b2]
  | .nop3C b1 b2 => [0x3C, b1, b2]
  | .andAbx b1 b2 => [0x3D, b1, b2]
  | .rolAbx b1 b2 => [0x3E, b1, b2]
  | .rlaAbx b1 b2 => [0x3F, b1, b2]
  | .rti => [0x40]
  | .eorIzx b1 => [0x41, b1]
  | .hlt42 => [0x42]
  | .lseIzx b1 => [0x43, b1]
  | .nop44 b1 => [0x44, b1]
  | .eorZp b1 => [0x45, b1]
  | .lsrZp b1 => [0x46, b1]
  | .lseZp b1 => [0x47, b1]
  | .pha => [0x48]
  | .eorImm b1 => [0x49, b1]
  | .lsrAcc => [0x4A]
  | .alr b1 => [0x4B, b1]
  | .jmpAdr b1 b2 => [0x4C, b1, b2]
  | .eorAbs b1 b2 => [0x4D, b1, b2]
  | .lsrAbs b1 b2 => [0x4E, b1, b2]
  | .lseAbs b1 b2 => [0x4F, b1, b2]
  | .bvc b1 => [0x50, b1]
  | .eorIzy b1 => [0x51, b1]
  | .hlt52 => [0x52]
  | .lseIzy b1 => [0x53, b1]
  | .nop54 b1 => [0x54, b1]
  | .eorZpx b1 => [0x55, b1]
  | .lsrZpx b1 => [0x56, b1]
  | .lseZpx b1 => [0x57, b1]
  | .cli => [0x58]
  | .eorAby b1 b2 => [0x59, b1, b2]
  | .nop5A => [0x5A]
  | .lseAby b1 b2 => [0x5B, b1, b2]
  | .nop5C b1 b2 => [0x5C, b1, b2]
  | .eorAbx b1 b2 => [0x5D, b1, b2]
  | .lsrAbx b1 b2 => [0x5E, b1, b2]
  | .lseAbx b1 b2 => [0x5F, b1, b2]
  | .rts => [0x60]
  | .adcIzx b1 => [0x61, b1]
  | .hlt62 => [0x62]
  | .rraIzx b1 => [0x63, b1]
  | .nop64 b1 => [0x64, b1]
  | .adcZp b1 => [0x65, b1]
  | .rorZp b1 => [0x66, b1]
  | .rraZp b1 => [0x67, b1]
  | .pla => [0x68]
  | .adcImm b1 => [0x69, b1]
  | .rorAcc => [0x6A]
  | .arr b1 => [0x6B, b1]
  | .jmpInd b1 b2 => [0x6C, b1, b2]
  | .adcAbs b1 b2 => [0x6D, b1, b2]
  | .rorAbs b1 b2 => [0x6E, b1, b2]
  | .rraAbs b1 b2 => [0x6F, b1, b2]
  | .bvs b1 => [0x70, b1]
  | .adcIzy b1 => [0x71, b1]
  | .hlt72 => [0x72]
  | .rraIzy b1 => [0x73, b1]
  | .nop74 b1 => [0x74, b1]
  | .adcZpx b1 => [0x75, b1]
  | .rorZpx b1 => [0x76, b1]
  | .rraZpx b1 => [0x77, b1]
  | .sei => [0x78]
  | .adcAby b1 b2 => [0x79, b1, b2]
  | .nop7A => [0x7A]
  | .rraAby b1 b2 => [0x7B, b1, b2]
  | .nop7C b1 b2 => [0x7C, b1, b2]
  | .adcAbx b1 b2 => [0x7D, b1, b2]
  | .rorAbx b1 b2 => [0x7E, b1, b2]
  | .rraAbx b1 b2 => [0x7F, b1, b2]
  | .nop80 => [0x80]
  | .staIzx b1 => [0x81, b1]
  | .hlt82 => [0x82]
  | .saxIzx b1 => [0x83, b1]
  | .styZp b1 => [0x84, b1]
  | .staZp b1 => [0x85, b1]
  | .stxZp b1 => [0x86, b1]
  | .saxZp b1 => [0x87, b1]
  | .dey => [0x88]
  | .nop89 b1 => [0x89, b1]
  | .txa => [0x8A]
  | .ane b1 => [0x8B, b1]
  | .styAbs b1 b2 => [0x8C, b1, b2]
  | .staAbs b1 b2 => [0x8D, b1, b2]
  | .stxAbs b1 b2 => [0x8E, b1, b2]
  | .saxAbs b1 b2 => [0x8F, b1, b2]
  | .bcc b1 => [0x90, b1]
  | .staIzy b1 => [0x91, b1]
  | .hlt92 => [0x92]
  | .shaIzy b1 => [0x93, b1]
  | .styZpx b1 => [0x94, b1]
  | .staZpx b1 => [0x95, b1]
  | .stxZpy b1 => [0x96, b1]
  | .saxZpy b1 => [0x97, b1]
  | .tya => [0x98]
  | .staAby b1 b2 => [0x99, b1, b2]
  | .txs => [0x9A]
  | .shs b1 b2 => [0x9B, b1, b2]
  | .shy b1 b2 => [0x9C, b1, b2]
  | .staAbx b1 b2 => [0x9D, b1, b2]
  | .shx b1 b2 => [0x9E, b1, b2]
  | .shaAby b1 b2 => [0x9F, b1, b2]
  | .ldyImm b1 => [0xA0, b1]
  | .ldaIzx b1 => [0xA1, b1]
  | .ldxImm b1 => [0xA2, b1]
  | .laxIzx b1 => [0xA3, b1]
  | .ldyZp b1 => [0xA4, b1]
  | .ldaZp b1 => [0xA5, b1]
  | .ldxZp b1 => [0xA6, b1]
  | .laxZp b1 => [0xA7, b1]
  | .tay => [0xA8]
  | .ldaImm b1 => [0xA9, b1]
  | .tax => [0xAA]
  | .lxa b1 => [0xAB, b1]
  | .ldyAbs b1 b2 => [0xAC, b1, b2]
  | .ldaAbs b1 b2 => [0xAD, b1, b2]
  | .ldxAbs b1 b2 => [0xAE, b1, b2]
  | .laxAbs b1 b2 => [0xAF, b1, b2]
  | .bcs b1 => [0xB0, b1]
  | .ldaIzy b1 => [0xB1, b1]
  | .hltB2 => [0xB2]
  | .laxIzy b1 => [0xB3, b1]
  | .ldyZpx b1 => [0xB4, b1]
  | .ldaZpx b1 => [0xB5, b1]
  | .ldxZpy b1 => [0xB6, b1]
  | .laxZpy b1 => [0xB7, b1]
  | .clv => [0xB8]
  | .ldaAby b1 b2 => [0xB9, b1, b2]
  | .tsx => [0xBA]
  | .las b1 b2 => [0xBB, b1, b2]
  | .ldyAbx b1 b2 => [0xBC, b1, b2]
  | .ldaAbx b1 b2 => [0xBD, b1, b2]
  | .ldxAby b1 b2 => [0xBE, b1, b2]
  | .laxAby b1 b2 => [0xBF, b1, b2]
  | .cpyImm b1 => [0xC0, b1]
  | .cmpIzx b1 => [0xC1, b1]
  | .hltC2 => [0xC2]
  | .dcmIzx b1 => [0xC3, b1]
  | .cpyZp b1 => [0xC4, b1]
  | .cmpZp b1 => [0xC5, b1]
  | .decZp b1 => [0xC6, b1]
  | .dcmZp b1 => [0xC7, b1]
  | .iny => [0xC8]
  | .cmpImm b1 => [0xC9, b1]
  | .dex => [0xCA]
  | .sbx b1 => [0xCB, b1]
  | .cpyAbs b1 b2 => [0xCC, b1, b2]
  | .cmpAbs b1 b2 => [0xCD, b1, b2]
  | .decAbs b1 b2 => [0xCE, b1, b2]
  | .dcmAbs b1 b2 => [0xCF, b1, b2]
  | .bne b1 => [0xD0, b1]
  | .cmpIzy b1 => [0xD1, b1]
  | .hltD2 => [0xD2]
  | .dcmIzy b1 => [0xD3, b1]
  | .nopD4 b1 => [0xD4, b1]
  | .cmpZpx b1 => [0xD5, b1]
  | .decZpx b1 => [0xD6, b1]
  | .dcmZpx b1 => [0xD7, b1]
  | .cld => [0xD8]
  | .cmpAby b1 b2 => [0xD9, b1, b2]
  | .nopDA => [0xDA]
  | .dcmAby b1 b2 => [0xDB, b1, b2]
  | .nopDC b1 b2 => [0xDC, b1, b2]
  | .cmpAbx b1 b2 => [0xDD, b1, b2]
  | .decAbx b1 b2 => [0xDE, b1, b2]
  | .dcmAbx b1 b2 => [0xDF, b1, b2]
  | .cpxImm b1 => [0xE0, b1]
  | .sbcIzx b1 => [0xE1, b1]
  | .hltE2 => [0xE2]
  | .insIzx b1 => [0xE3, b1]
  | .cpxZp b1 => [0xE4, b1]
  | .sbcZp b1 => [0xE5, b1]
  | .incZp b1 => [0xE6, b1]
  | .insZp b1 => [0xE7, b1]
  | .inx => [0xE8]
  | .sbcImm b1 => [0xE9, b1]
  | .nop => [0xEA]
  | .sbcImmEB b1 => [0xEB, b1]
  | .cpxAbs b1 b2 => [0xEC, b1, b2]
  | .sbcAbs b1 b2 => [0xED, b1, b2]
  | .incAbs b1 b2 => [0xEE, b1, b2]
  | .insAbs b1 b2 => [0xEF, b1, b2]
  | .beq b1 => [0xF0, b1]
  | .sbcIzy b1 => [0xF1, b1]
  | .hltF2 => [0xF2]
  | .insIzy b1 => [0xF3, b1]
  | .nopF4 b1 => [0xF4, b1]
  | .sbcZpx b1 => [0xF5, b1]
  | .incZpx b1 => [0xF6, b1]
  | .insZpx b1 => [0xF7, b1]
  | .sed => [0xF8]
  | .sbcAby b1 b2 => [0xF9, b1, b2]
  | .nopFA => [0xFA]
  | .insAby b1 b2 => [0xFB, b1, b2]
  | .nopFC b1 b2 => [0xFC, b1, b2]
  | .sbcAbx b1 b2 => [0xFD, b1, b2]
  | .incAbx b1 b2 => [0xFE, b1, b2]
  | .insAbx b1 b2 => [0xFF, b1, b2]
  | .nop80Imm b1 => [0x80, b1]
  | .nop82Imm b1 => [0x82, b1]
  | .nopC2Imm b1 => [0xC2, b1]
  | .nopE2Imm b1 => [0xE2, b1]

end Sys2Proof
end

