-- ==== Sys2Proof/Machine/Bits.lean ====
section
/-! DEFINITION. Bit-field, extension and byte-order helpers (00_scope.md R6, R7, R8; 20_memory.md R51). -/

namespace Sys2Proof.Machine

/-- `lo(w) = w[7:0]` (00_scope.md R8). -/
def lo (w : Addr) : Byte := w.setWidth 8

/-- `hi(w) = w[15:8]` (00_scope.md R8). -/
def hi (w : Addr) : Byte := (w >>> 8).setWidth 8

/-- `h :: l`, the high byte first (00_scope.md R6). -/
def cat (h l : Byte) : Addr := h ++ l

/-- `zext_16(v)` (00_scope.md R7). -/
def zext (v : Byte) : Addr := v.setWidth 16

/-- `sext_16(v)` (00_scope.md R7). -/
def sext (v : Byte) : Addr := v.signExtend 16

end Sys2Proof.Machine
end

