-- ==== Sys2Proof/Machine/Memory.lean ====
section
/-! DEFINITION. Memory: 65536 bytes of plain storage (20_memory.md R50, R55), held as the list of the bytes that differ
from what an unlisted address reads as, in one canonical form. -/

namespace Sys2Proof.Machine

/-- Memory as (address, byte) pairs. Canonical form: `Memory.wf`. -/
abbrev Memory := List Host.Cell

/-- What an address that is not listed reads as. The spec gives the initial contents `MEM0` no value
(10_state.md R35): DESIGN CHOICE 0x00, log 11. -/
def Memory.unlisted : Byte := 0

/-- No byte listed: every address reads as `Memory.unlisted`. -/
def Memory.empty : Memory := []

/-- The byte at a key. -/
def Memory.lookup : Memory → Nat → Byte
  | [], _ => Memory.unlisted
  | (k, b) :: rest, a => if k = a then b else Memory.lookup rest a

/-- Remove every entry for a key. -/
def Memory.erase : Memory → Nat → Memory
  | [], _ => []
  | (k, b) :: rest, a => if k = a then Memory.erase rest a else (k, b) :: Memory.erase rest a

/-- Put an entry before the first larger key. -/
def Memory.insert : Memory → Nat → Byte → Memory
  | [], a, v => [(a, v)]
  | (k, b) :: rest, a, v =>
    if a < k then (a, v) :: (k, b) :: rest else (k, b) :: Memory.insert rest a v

/-- `MemRead(addr, 1)` (00_scope.md R7): the byte at a 16-bit address. -/
def Memory.read (m : Memory) (a : Addr) : Byte := Memory.lookup m a.toNat

/-- `MemWrite(addr, 1, v)` (00_scope.md R7). Writing the value an unlisted address reads as removes the entry, so that
equal memories are equal lists. -/
def Memory.write (m : Memory) (a : Addr) (v : Byte) : Memory :=
  if v = Memory.unlisted then Memory.erase m a.toNat else Memory.insert (Memory.erase m a.toNat) a.toNat v

/-- The canonical form from a least key on: keys strictly rising and below 65536, no entry equal to what an unlisted
address reads as. -/
def Memory.wfFrom : Nat → Memory → Bool
  | _, [] => true
  | least, (k, b) :: rest =>
    decide (least ≤ k) && decide (k < 65536) && decide (b ≠ Memory.unlisted) && Memory.wfFrom (k + 1) rest

/-- The canonical form. -/
def Memory.wf (m : Memory) : Bool := Memory.wfFrom 0 m

/-- `MemRead16(a)`: low byte at `a`, high byte at `a + 1` modulo 65536 (00_scope.md R8, 20_memory.md R51). -/
def Memory.read16 (m : Memory) (a : Addr) : Addr := cat (m.read (a + 1)) (m.read a)

end Sys2Proof.Machine
end

