-- ==== Sys2Proof/Machine/State.lean ====
section
/-! DEFINITION. The state of the machine as plain data, everything the spec gives it (10_state.md R20 to R37), the reasons
a step can stop, and the state after reset (70_reset_and_hazards.md R290). -/

namespace Sys2Proof.Machine

/-- The six status flags (10_state.md R25). B and bit 5 of the status byte are not state (R28, R29). -/
@[ext]
structure Status where
  /-- N, negative (10_state.md R26). -/
  n : Bool
  /-- V, overflow (10_state.md R27). -/
  v : Bool
  /-- D, decimal mode (10_state.md R30). -/
  d : Bool
  /-- I, interrupt: while it is 1 the IRQ input is not accepted (10_state.md R31). -/
  i : Bool
  /-- Z, zero (10_state.md R32). -/
  z : Bool
  /-- C, carry (10_state.md R33). -/
  c : Bool
deriving DecidableEq, Repr

/-- The inputs IRQ_LINE(t), NMI_EDGE(t), RESET_LINE(t) at one instruction boundary t (60_exceptions.md R263). -/
structure PinSample where
  /-- The level of the IRQ input. -/
  irq : Bool
  /-- An NMI edge arrived. -/
  nmi : Bool
  /-- The level of the RESET input. -/
  reset : Bool
deriving DecidableEq, Repr

/-- Everything the spec gives the machine, and three fields of the model's own (`inputs`, `params`, `draws`). -/
@[ext]
structure State where
  /-- A, the accumulator (10_state.md R20). -/
  a : Byte
  /-- X, an index register (10_state.md R21). -/
  x : Byte
  /-- Y, an index register (10_state.md R22). -/
  y : Byte
  /-- S, the stack pointer (10_state.md R23). -/
  sp : Byte
  /-- The program counter (10_state.md R24). -/
  pc : Addr
  /-- The status flags (10_state.md R25). -/
  p : Status
  /-- The cleared "running bit": set by HLT, cleared by reset only (10_state.md R36). -/
  halted : Bool
  /-- An NMI edge has arrived and was not taken yet (10_state.md R36, 60_exceptions.md R265). -/
  nmiPending : Bool
  /-- The level of the IRQ input at this boundary (10_state.md R36, 60_exceptions.md R265). -/
  irqLine : Bool
  /-- The level of the RESET input at this boundary (60_exceptions.md R269). -/
  resetLine : Bool
  /-- The input samples of the boundaries to come; when none is left the levels stay (log 13). -/
  inputs : List PinSample
  /-- The 65536 bytes of memory (10_state.md R35). -/
  mem : Memory
  /-- The parameters of this run (00_scope.md R5; log 1). -/
  params : Params
  /-- How many free values have been drawn (00_scope.md R7 `draw`; log 8). -/
  draws : Nat
deriving DecidableEq, Repr

/-- Why a step stops with a fault: there is no reason. The hardware raises no fault of any kind (60_exceptions.md R261;
93_implementation_defined.md: "The hardware has no `fault` case at all"), so this type has no value. -/
inductive Fault where
deriving DecidableEq, Repr

/-- Why the model has no next state. -/
inductive Refusal where
  /-- Raised by an arm of `exec` whose instruction has no meaning yet; no arm does. Safe. -/
  | notModelled (mnemonic : String)
  /-- Raised by `step` if the bytes it fetched decode to no instruction. It fetches as many bytes as the opcode's row
  has, and every opcode has a row (30_encoding.md R100), so no state reaches it; it makes `step` total. Safe. -/
  | undecodable
deriving DecidableEq, Repr

/-- What a meaning answers. -/
abbrev Result := Host.Outcome State Fault Refusal

/-- The vector of RESET (20_memory.md R55, 70_reset_and_hazards.md R291). -/
def vecReset : Addr := 0xFFFC

/-- The machine right after a power-on reset with initial memory contents `mem0` (the parameter `MEM0`): I = 1, not
halted, no NMI pending, pc from the reset vector (70_reset_and_hazards.md R290, R292). The registers and flags the spec
leaves unspecified are zero: DESIGN CHOICE, log 9. Inputs are not asserted (log 13), parameters nominal (log 1). -/
def State.powerOn (mem0 : Memory) : State where
  a := 0
  x := 0
  y := 0
  sp := 0
  pc := mem0.read16 vecReset
  p := { n := false, v := false, d := false, i := true, z := false, c := false }
  halted := false
  nmiPending := false
  irqLine := false
  resetLine := false
  inputs := []
  mem := mem0
  params := Params.nominal
  draws := 0

/-- The machine right after reset with nothing placed in memory (log 11, log 12). -/
def State.reset : State := State.powerOn Memory.empty

end Sys2Proof.Machine
end

