-- ==== Sys2Proof/Machine/Flags.lean ====
section
/-! DEFINITION. Every flag computation of the spec, as functions of bytes and the status: N and Z of a result, binary and
decimal addition and subtraction, compare, increment and decrement, the shift cores, and the undocumented ANC, ARR and
SBX. A function that also computes a byte answers the byte and the status. -/

namespace Sys2Proof.Machine

/-- `SetNZ(v)` (00_scope.md R8; 10_state.md R26, R32). -/
def setNZ (v : Byte) (p : Status) : Status := { p with n := v.msb, z := v == 0 }

/-- `Pbyte(b)`: N V 1 b D I Z C, the status as a byte (00_scope.md R8; 10_state.md R25, R28, R29). -/
def pbyte (b : Bool) (p : Status) : Byte :=
  BitVec.ofBool p.n ++ BitVec.ofBool p.v ++ 1#1 ++ BitVec.ofBool b ++
    BitVec.ofBool p.d ++ BitVec.ofBool p.i ++ BitVec.ofBool p.z ++ BitVec.ofBool p.c

/-- `SetP(v)`: the six flags from a byte, bits 5 and 4 dropped (00_scope.md R8; 10_state.md R28, R29). -/
def statusOfByte (v : Byte) : Status where
  n := v.getLsbD 7
  v := v.getLsbD 6
  d := v.getLsbD 3
  i := v.getLsbD 2
  z := v.getLsbD 1
  c := v.getLsbD 0

/-- `AdcBinary(m)` (41_arithmetic_logic.md R151). -/
def adcBinary (a m : Byte) (p : Status) : Byte × Status :=
  let t := a.toNat + m.toNat + p.c.toNat
  let r : Byte := BitVec.ofNat 8 t
  (r, setNZ r { p with c := decide (t > 255), v := (a.msb == m.msb) && (t.testBit 7 != a.msb) })

/-- `al` of `AdcDecimal`: the sum of the low digits, adjusted (41_arithmetic_logic.md R153). -/
def adcLowDigit (a m : Byte) (c : Bool) : Nat :=
  let al := a.toNat % 16 + m.toNat % 16 + c.toNat
  if al ≥ 10 then (al + 6) % 16 + 16 else al

/-- `AdcDecimal(m)` (41_arithmetic_logic.md R153): N and V from the sum before the high digit is adjusted, Z from the
binary sum. -/
def adcDecimal (a m : Byte) (p : Status) : Byte × Status :=
  let t := a.toNat / 16 * 16 + m.toNat / 16 * 16 + adcLowDigit a m p.c
  let t' := if t ≥ 0xA0 then t + 0x60 else t
  (BitVec.ofNat 8 t',
    { p with
      n := t.testBit 7
      v := (a.msb == m.msb) && (t.testBit 7 != a.msb)
      z := (a.toNat + m.toNat + p.c.toNat) % 256 == 0
      c := decide (t' ≥ 0x100) })

/-- `SbcBinary(m)` (41_arithmetic_logic.md R154). -/
def sbcBinary (a m : Byte) (p : Status) : Byte × Status :=
  let t := a.toNat + (255 - m.toNat) + p.c.toNat
  let r : Byte := BitVec.ofNat 8 t
  (r, setNZ r { p with c := decide (t > 255), v := (a.msb != m.msb) && (t.testBit 7 != a.msb) })

/-- `al` of `SbcDecimal`: the difference of the low digits, adjusted (41_arithmetic_logic.md R155). -/
def sbcLowDigit (a m : Byte) (c : Bool) : Int :=
  let al : Int := (a.toNat % 16 : Int) - (m.toNat % 16 : Int) + (c.toNat : Int) - 1
  if al < 0 then (al - 6) % 16 - 16 else al

/-- `SbcDecimal(m)` (41_arithmetic_logic.md R155): all four flags are those of `SbcBinary(m)`. -/
def sbcDecimal (a m : Byte) (p : Status) : Byte × Status :=
  let u : Int := (a.toNat / 16 * 16 : Int) - (m.toNat / 16 * 16 : Int) + sbcLowDigit a m p.c
  let u' := if u < 0 then u - 0x60 else u
  (BitVec.ofInt 8 u', (sbcBinary a m p).2)

/-- The addition that D selects (41_arithmetic_logic.md R157). -/
def adcByMode (a m : Byte) (p : Status) : Byte × Status :=
  if p.d then adcDecimal a m p else adcBinary a m p

/-- The subtraction that D selects (41_arithmetic_logic.md R171). -/
def sbcByMode (a m : Byte) (p : Status) : Byte × Status :=
  if p.d then sbcDecimal a m p else sbcBinary a m p

/-- `Compare(r, m)`: C is "no borrow", N and Z of the 8-bit difference (41_arithmetic_logic.md R152). -/
def compareFlags (r m : Byte) (p : Status) : Status :=
  setNZ (r - m) { p with c := decide (r.toNat ≥ m.toNat) }

/-- The flags of BIT: N and V from the operand, Z from the AND (41_arithmetic_logic.md R159). -/
def bitFlags (a m : Byte) (p : Status) : Status :=
  { p with n := m.getLsbD 7, v := m.getLsbD 6, z := a &&& m == 0 }

/-- `Inc(v)` with its flags (41_arithmetic_logic.md R156). -/
def incCore (v : Byte) (p : Status) : Byte × Status := (v + 1, setNZ (v + 1) p)

/-- `Dec(v)` with its flags (41_arithmetic_logic.md R156). -/
def decCore (v : Byte) (p : Status) : Byte × Status := (v - 1, setNZ (v - 1) p)

/-- `AslCore(v)` (42_shift_rotate.md R180). -/
def aslCore (v : Byte) (p : Status) : Byte × Status :=
  let r : Byte := v <<< 1
  (r, setNZ r { p with c := v.getLsbD 7 })

/-- `LsrCore(v)` (42_shift_rotate.md R180). -/
def lsrCore (v : Byte) (p : Status) : Byte × Status :=
  let r : Byte := v >>> 1
  (r, setNZ r { p with c := v.getLsbD 0 })

/-- `RolCore(v)`: the old C enters bit 0 (42_shift_rotate.md R180). -/
def rolCore (v : Byte) (p : Status) : Byte × Status :=
  let r : Byte := v <<< 1 ||| (BitVec.ofBool p.c).setWidth 8
  (r, setNZ r { p with c := v.getLsbD 7 })

/-- `RorCore(v)`: the old C enters bit 7 (42_shift_rotate.md R180). -/
def rorCore (v : Byte) (p : Status) : Byte × Status :=
  let r : Byte := v >>> 1 ||| (BitVec.ofBool p.c).setWidth 8 <<< 7
  (r, setNZ r { p with c := v.getLsbD 0 })

/-- The result and flags of ALR: AND, then LSR (47_undoc_immediate.md R240). -/
def alrCore (a imm : Byte) (p : Status) : Byte × Status := lsrCore (a &&& imm) p

/-- The result and flags of ANC: AND, N and Z of the result, C its bit 7 (47_undoc_immediate.md R241). -/
def ancCore (a imm : Byte) (p : Status) : Byte × Status :=
  let r := a &&& imm
  (r, { setNZ r p with c := r.getLsbD 7 })

/-- `t` of ARR rotated right through the old carry, bit 0 lost (47_undoc_immediate.md R243). -/
def arrRotated (t : Byte) (c : Bool) : Byte := t >>> 1 ||| (BitVec.ofBool c).setWidth 8 <<< 7

/-- ARR with D = 0 (47_undoc_immediate.md R243). -/
def arrBinary (a imm : Byte) (p : Status) : Byte × Status :=
  let r := arrRotated (a &&& imm) p.c
  (r, { setNZ r p with c := r.getLsbD 6, v := r.getLsbD 6 ^^ r.getLsbD 5 })

/-- ARR with D = 1 (47_undoc_immediate.md R243): N is the old carry, Z that of the value before the digit fix-ups. -/
def arrDecimal (a imm : Byte) (p : Status) : Byte × Status :=
  let t := a &&& imm
  let r := arrRotated t p.c
  let r1 : Byte :=
    if t.toNat % 16 + t.toNat % 2 > 5 then (r &&& 0xF0) ||| ((r + 6) &&& 0x0F) else r
  let c := decide (t.toNat / 16 + t.toNat / 16 % 2 > 5)
  let r2 : Byte := if c then r1 + 0x60 else r1
  (r2, { p with n := p.c, z := r == 0, v := t.getLsbD 6 ^^ r.getLsbD 6, c := c })

/-- The ARR that D selects (47_undoc_immediate.md R243). -/
def arrByMode (a imm : Byte) (p : Status) : Byte × Status :=
  if p.d then arrDecimal a imm p else arrBinary a imm p

/-- The new A of ANE under the mask `k` (47_undoc_immediate.md R242). -/
def aneResult (k a x imm : Byte) : Byte := ((a &&& k &&& x) ||| (0xEE &&& x)) &&& imm

/-- The result of LXA under the constant `k` (47_undoc_immediate.md R244). -/
def lxaResult (k a imm : Byte) : Byte := (a ||| k) &&& imm

/-- The new X and the flags of SBX: a compare of `A and X` with the operand, the difference kept
(47_undoc_immediate.md R245). -/
def sbxCore (a x imm : Byte) (p : Status) : Byte × Status := ((a &&& x) - imm, compareFlags (a &&& x) imm p)

end Sys2Proof.Machine
end

