-- ==== Sys2Proof/Machine/Ops.lean ====
section
/-! DEFINITION. The named operations over registers and memory: updates of one field, memory access, the stack, taking a
trap and returning from it, the interrupt entries, the reset event, sampling the inputs, fetching an instruction's
bytes, and drawing a free value. -/

namespace Sys2Proof.Machine

/-! ### Updates of one field -/

/-- `A <- v` (00_scope.md R7). -/
def State.setA (s : State) (v : Byte) : State := { s with a := v }

/-- `X <- v` (00_scope.md R7). -/
def State.setX (s : State) (v : Byte) : State := { s with x := v }

/-- `Y <- v` (00_scope.md R7). -/
def State.setY (s : State) (v : Byte) : State := { s with y := v }

/-- `S <- v` (00_scope.md R7). -/
def State.setSp (s : State) (v : Byte) : State := { s with sp := v }

/-- `pc <- t` (00_scope.md R7). -/
def State.setPc (s : State) (t : Addr) : State := { s with pc := t }

/-- Write the six flags. -/
def State.setP (s : State) (p : Status) : State := { s with p := p }

/-- Write the memory. -/
def State.setMem (s : State) (m : Memory) : State := { s with mem := m }

/-- Write `halted` (10_state.md R36). -/
def State.setHalted (s : State) (b : Bool) : State := { s with halted := b }

/-- Write `nmi_pending` (10_state.md R36). -/
def State.setNmiPending (s : State) (b : Bool) : State := { s with nmiPending := b }

/-- Count one drawn free value (log 8). -/
def State.nextDraw (s : State) : State := { s with draws := s.draws + 1 }

/-! ### Memory -/

/-- `MemRead(addr, 1)` (00_scope.md R7). -/
def State.read (s : State) (a : Addr) : Byte := s.mem.read a

/-- `MemWrite(addr, 1, v)` (00_scope.md R7). -/
def State.write (s : State) (a : Addr) (v : Byte) : State := s.setMem (s.mem.write a v)

/-- `MemRead16(a)` (00_scope.md R8). -/
def State.read16 (s : State) (a : Addr) : Addr := s.mem.read16 a

/-- A read whose value is discarded (44_flag_nop_hlt.md R217); memory is plain storage, so it changes nothing. -/
def State.readDiscarded (s : State) (a : Addr) : State :=
  match s.read a with
  | _ => s

/-! ### The stack (20_memory.md R52) -/

/-- The high byte of every stack address, `STACK_PAGE` (00_scope.md R5). -/
def stackPage : Byte := 0x01

/-- The stack address `0x0100 + S` (10_state.md R23). -/
def stackAddr (sp : Byte) : Addr := cat stackPage sp

/-- `Push(v)`: store, then decrement S modulo 256 (00_scope.md R8). -/
def State.push (s : State) (v : Byte) : State := (s.write (stackAddr s.sp) v).setSp (s.sp - 1)

/-- `Push(hi(w)); Push(lo(w))` (43_control_flow.md R197, R201). -/
def State.push16 (s : State) (w : Addr) : State := (s.push (hi w)).push (lo w)

/-- The byte `Pull()` delivers: S is incremented first (00_scope.md R8). -/
def State.pulled (s : State) : Byte := s.read (stackAddr (s.sp + 1))

/-- The state `Pull()` leaves (00_scope.md R8). -/
def State.afterPull (s : State) : State := s.setSp (s.sp + 1)

/-- The 16-bit value two pulls deliver, low byte first (43_control_flow.md R202, R203). -/
def State.pulled16 (s : State) : Addr := cat s.afterPull.pulled s.pulled

/-! ### Taking a trap and returning from it -/

/-- The vector of NMI (20_memory.md R55). -/
def vecNmi : Addr := 0xFFFA

/-- The vector BRK and IRQ share (20_memory.md R55). -/
def vecIrqBrk : Addr := 0xFFFE

/-- `TrapEntry`: push the return address and the given status byte, set I, continue at the vector's address
(60_exceptions.md R271). The vector is read after the pushes. -/
def State.trapEntry (s : State) (ret : Addr) (status : Byte) (vec : Addr) : State :=
  let s' := (s.push16 ret).push status
  (s'.setP { s'.p with i := true }).setPc (s'.read16 vec)

/-- The status byte BRK pushes: B is 1, and bit 2 is as `BRK_PUSH_I` says (43_control_flow.md R197). -/
def State.brkStatus (s : State) : Byte :=
  match s.params.brkPushI with
  | .set => pbyte true s.p ||| 0x04
  | .old => pbyte true s.p

/-- BRK's entry: the return address is NextPC (43_control_flow.md R197, 60_exceptions.md R271). -/
def State.brkEntry (s : State) : State := s.trapEntry s.pc s.brkStatus vecIrqBrk

/-- IRQ entry (60_exceptions.md R267). -/
def State.irqEntry (s : State) : State := s.trapEntry s.pc (pbyte false s.p) vecIrqBrk

/-- NMI entry (60_exceptions.md R268). -/
def State.nmiEntry (s : State) : State :=
  (s.setNmiPending false).trapEntry s.pc (pbyte false s.p) vecNmi

/-- The return from a trap: pull the status, then the address, and continue exactly there (43_control_flow.md R202,
60_exceptions.md R273). -/
def State.returnFromTrap (s : State) : State :=
  let s1 := s.afterPull.setP (statusOfByte s.pulled)
  (s1.afterPull.afterPull).setPc s1.pulled16

/-- The reset event (70_reset_and_hazards.md R290, 60_exceptions.md R269). The registers and flags the rule leaves
unspecified are free values (log 10). -/
def State.resetEvent (s : State) : State :=
  { s.nextDraw with
    a := Config.resetA s.draws
    x := Config.resetX s.draws
    y := Config.resetY s.draws
    sp := Config.resetS s.draws
    p := { n := Config.resetN s.draws, v := Config.resetV s.draws, d := Config.resetD s.draws, i := true,
           z := Config.resetZ s.draws, c := Config.resetC s.draws }
    halted := false
    nmiPending := false
    pc := s.read16 vecReset }

/-! ### Free values drawn by instructions -/

/-- The ANE mask of this execution: some of bits 4 and 0, that is one of 0x11, 0x10, 0x01, 0x00
(47_undoc_immediate.md R242; log 7). -/
def State.aneMask (s : State) : Byte := Config.aneDraw s.draws &&& 0x11

/-- Whether an SH store drops its `and h` term at this execution: never when `SH_UNSTABLE` is false
(46_undoc_load_store.md R233; log 6). -/
def State.shDropped (s : State) : Bool := s.params.shUnstable && Config.shTermDropped s.draws

/-- The draw an SH store makes, if `SH_UNSTABLE` is true (log 6, log 8). -/
def State.afterShDraw (s : State) : State := if s.params.shUnstable then s.nextDraw else s

/-! ### The boundary between two instructions -/

/-- Take the next sample of the inputs: the levels become the sample's, an NMI edge sets `nmi_pending`
(60_exceptions.md R263, R265, R266). With no sample left the levels stay as they are (log 13). -/
def State.sampleInputs (s : State) : State :=
  match s.inputs with
  | [] => s
  | t :: rest =>
    { s with inputs := rest, irqLine := t.irq, resetLine := t.reset, nmiPending := s.nmiPending || t.nmi }

/-- An IRQ is accepted: the line is asserted and I is 0 (60_exceptions.md R264, R267). -/
def State.irqAccepted (s : State) : Bool := s.irqLine && !s.p.i

/-- The `n` bytes from the address `a` on, modulo 65536 (30_encoding.md R80, R83). -/
def State.bytesFrom (s : State) : Addr → Nat → List Byte
  | _, 0 => []
  | a, n + 1 => s.read a :: s.bytesFrom (a + 1) n

/-- The bytes of the instruction at pc: as many as its opcode's row has (30_encoding.md R82, R108). -/
def State.fetch (s : State) : List Byte := s.bytesFrom s.pc (opcodeLength s.params (s.read s.pc))

/-- `NextPC` (30_encoding.md R108), modulo 65536 (20_memory.md R63). -/
def State.nextPc (s : State) : Addr := s.pc + BitVec.ofNat 16 (opcodeLength s.params (s.read s.pc))

/-! ### Reading, modifying and combining -/

/-- An accumulator form: A becomes what a core computes from it (42_shift_rotate.md R180). -/
def State.modifyA (s : State) (core : Byte → Status → Byte × Status) : State :=
  (s.setA (core s.a s.p).1).setP (core s.a s.p).2

/-- A read-modify-write form: one read and one write at the same address (30_encoding.md R98). -/
def State.modifyMem (s : State) (core : Byte → Status → Byte × Status) (ea : Addr) : State :=
  (s.write ea (core (s.read ea) s.p).1).setP (core (s.read ea) s.p).2

/-- The frame of the undocumented read-modify-write combinations: modify memory, then a second operation on the byte
just written (45_undoc_rmw.md R220). -/
def State.modifyMemThen (s : State) (core : Byte → Status → Byte × Status) (second : Byte → State → State)
    (ea : Addr) : State :=
  second (core (s.read ea) s.p).1 (s.modifyMem core ea)

/-- A computation on A whose byte goes to A and whose flags are kept. -/
def State.accumulate (s : State) (r : Byte × Status) : State := (s.setA r.1).setP r.2

end Sys2Proof.Machine
end

