-- ==== Sys2Proof/Machine/Operands.lean ====
section
/-! DEFINITION. The addressing modes (30_encoding.md R84 to R98): the effective address `EA` of each memory mode, the base
address of the indexed ones, and the targets of `rel`, `adr` and `ind`. `imp`, `acc` and `imm` have no address: their
operand is named by the instruction's meaning. -/

namespace Sys2Proof.Machine

/-- `zp` (30_encoding.md R87). -/
def eaZp (b1 : Byte) : Addr := zext b1

/-- `zpx`, wrapping in the zero page (30_encoding.md R88). -/
def eaZpx (b1 : Byte) (s : State) : Addr := zext (b1 + s.x)

/-- `zpy`, wrapping in the zero page (30_encoding.md R89). -/
def eaZpy (b1 : Byte) (s : State) : Addr := zext (b1 + s.y)

/-- `abs`, `b2 :: b1`; also `BASE` of `abx` and `aby`, and the target of `adr` (30_encoding.md R90, R91, R92, R96). -/
def eaAbs (b1 b2 : Byte) : Addr := cat b2 b1

/-- A base address indexed modulo 65536 (30_encoding.md R91, R92, R94). -/
def indexed (base : Addr) (index : Byte) : Addr := base + zext index

/-- `abx` (30_encoding.md R91). -/
def eaAbx (b1 b2 : Byte) (s : State) : Addr := indexed (eaAbs b1 b2) s.x

/-- `aby` (30_encoding.md R92). -/
def eaAby (b1 b2 : Byte) (s : State) : Addr := indexed (eaAbs b1 b2) s.y

/-- The 16-bit pointer in the zero page, its high byte's address wrapping in the zero page (30_encoding.md R93, R94). -/
def zpPointer (z : Byte) (s : State) : Addr := cat (s.read (zext (z + 1))) (s.read (zext z))

/-- `izx` (30_encoding.md R93). -/
def eaIzx (b1 : Byte) (s : State) : Addr := zpPointer (b1 + s.x) s

/-- `BASE` of `izy` (30_encoding.md R94). -/
def baseIzy (b1 : Byte) (s : State) : Addr := zpPointer b1 s

/-- `izy` (30_encoding.md R94). -/
def eaIzy (b1 : Byte) (s : State) : Addr := indexed (baseIzy b1 s) s.y

/-- The target of `rel`, from NextPC (30_encoding.md R95). -/
def targetRel (b1 : Byte) (nextPc : Addr) : Addr := nextPc + sext b1

/-- The target of `ind`: the pointer's high byte is read in the pointer's own page (30_encoding.md R97). -/
def targetInd (b1 b2 : Byte) (s : State) : Addr := cat (s.read (cat b2 (b1 + 1))) (s.read (cat b2 b1))

/-- "Page boundary crossed" (30_encoding.md R91). -/
def pageCrossed (base ea : Addr) : Bool := hi ea != hi base

end Sys2Proof.Machine
end

