-- ==== Sys2Proof/Machine/LoadStore.lean ====
section
/-! DEFINITION. Loads, stores, register transfers, stack pushes and pulls (40_load_store_transfer.md R130 to R145). -/

namespace Sys2Proof.Machine

/-! ### The operations of the family -/

/-- `A <- v; SetNZ(v)` (R130, R143, R145). -/
def loadA (v : Byte) (s : State) : State := (s.setA v).setP (setNZ v s.p)

/-- `X <- v; SetNZ(v)` (R131, R140, R142). -/
def loadX (v : Byte) (s : State) : State := (s.setX v).setP (setNZ v s.p)

/-- `Y <- v; SetNZ(v)` (R132, R141). -/
def loadY (v : Byte) (s : State) : State := (s.setY v).setP (setNZ v s.p)

/-- `MemWrite(EA, 1, A)` (R137). -/
def storeA (ea : Addr) (s : State) : State := s.write ea s.a

/-- `MemWrite(EA, 1, X)` (R138). -/
def storeX (ea : Addr) (s : State) : State := s.write ea s.x

/-- `MemWrite(EA, 1, Y)` (R139). -/
def storeY (ea : Addr) (s : State) : State := s.write ea s.y

/-- `A <- Pull(); SetNZ(A)` (R135). -/
def pullA (s : State) : State := loadA s.pulled s.afterPull

/-! ### The meanings, one per opcode value -/

/-- 0xA1 LDA izx (R130). -/
def execLdaIzx (b1 : Byte) (s : State) : Result :=
  .next (loadA (s.read (eaIzx b1 s)) s)

/-- 0xA5 LDA zp (R130). -/
def execLdaZp (b1 : Byte) (s : State) : Result :=
  .next (loadA (s.read (eaZp b1)) s)

/-- 0xA9 LDA imm (R130). -/
def execLdaImm (b1 : Byte) (s : State) : Result :=
  .next (loadA b1 s)

/-- 0xAD LDA abs (R130). -/
def execLdaAbs (b1 b2 : Byte) (s : State) : Result :=
  .next (loadA (s.read (eaAbs b1 b2)) s)

/-- 0xB1 LDA izy (R130). -/
def execLdaIzy (b1 : Byte) (s : State) : Result :=
  .next (loadA (s.read (eaIzy b1 s)) s)

/-- 0xB5 LDA zpx (R130). -/
def execLdaZpx (b1 : Byte) (s : State) : Result :=
  .next (loadA (s.read (eaZpx b1 s)) s)

/-- 0xB9 LDA aby (R130). -/
def execLdaAby (b1 b2 : Byte) (s : State) : Result :=
  .next (loadA (s.read (eaAby b1 b2 s)) s)

/-- 0xBD LDA abx (R130). -/
def execLdaAbx (b1 b2 : Byte) (s : State) : Result :=
  .next (loadA (s.read (eaAbx b1 b2 s)) s)

/-- 0xA2 LDX imm (R131). -/
def execLdxImm (b1 : Byte) (s : State) : Result :=
  .next (loadX b1 s)

/-- 0xA6 LDX zp (R131). -/
def execLdxZp (b1 : Byte) (s : State) : Result :=
  .next (loadX (s.read (eaZp b1)) s)

/-- 0xAE LDX abs (R131). -/
def execLdxAbs (b1 b2 : Byte) (s : State) : Result :=
  .next (loadX (s.read (eaAbs b1 b2)) s)

/-- 0xB6 LDX zpy (R131). -/
def execLdxZpy (b1 : Byte) (s : State) : Result :=
  .next (loadX (s.read (eaZpy b1 s)) s)

/-- 0xBE LDX aby (R131). -/
def execLdxAby (b1 b2 : Byte) (s : State) : Result :=
  .next (loadX (s.read (eaAby b1 b2 s)) s)

/-- 0xA0 LDY imm (R132). -/
def execLdyImm (b1 : Byte) (s : State) : Result :=
  .next (loadY b1 s)

/-- 0xA4 LDY zp (R132). -/
def execLdyZp (b1 : Byte) (s : State) : Result :=
  .next (loadY (s.read (eaZp b1)) s)

/-- 0xAC LDY abs (R132). -/
def execLdyAbs (b1 b2 : Byte) (s : State) : Result :=
  .next (loadY (s.read (eaAbs b1 b2)) s)

/-- 0xB4 LDY zpx (R132). -/
def execLdyZpx (b1 : Byte) (s : State) : Result :=
  .next (loadY (s.read (eaZpx b1 s)) s)

/-- 0xBC LDY abx (R132). -/
def execLdyAbx (b1 b2 : Byte) (s : State) : Result :=
  .next (loadY (s.read (eaAbx b1 b2 s)) s)

/-- 0x48 PHA imp (R133). -/
def execPha (s : State) : Result :=
  .next (s.push s.a)

/-- 0x08 PHP imp (R134). -/
def execPhp (s : State) : Result :=
  .next (s.push (pbyte true s.p))

/-- 0x68 PLA imp (R135). -/
def execPla (s : State) : Result :=
  .next (pullA s)

/-- 0x28 PLP imp (R136). -/
def execPlp (s : State) : Result :=
  .next (s.afterPull.setP (statusOfByte s.pulled))

/-- 0x81 STA izx (R137). -/
def execStaIzx (b1 : Byte) (s : State) : Result :=
  .next (storeA (eaIzx b1 s) s)

/-- 0x85 STA zp (R137). -/
def execStaZp (b1 : Byte) (s : State) : Result :=
  .next (storeA (eaZp b1) s)

/-- 0x8D STA abs (R137). -/
def execStaAbs (b1 b2 : Byte) (s : State) : Result :=
  .next (storeA (eaAbs b1 b2) s)

/-- 0x91 STA izy (R137). -/
def execStaIzy (b1 : Byte) (s : State) : Result :=
  .next (storeA (eaIzy b1 s) s)

/-- 0x95 STA zpx (R137). -/
def execStaZpx (b1 : Byte) (s : State) : Result :=
  .next (storeA (eaZpx b1 s) s)

/-- 0x99 STA aby (R137). -/
def execStaAby (b1 b2 : Byte) (s : State) : Result :=
  .next (storeA (eaAby b1 b2 s) s)

/-- 0x9D STA abx (R137). -/
def execStaAbx (b1 b2 : Byte) (s : State) : Result :=
  .next (storeA (eaAbx b1 b2 s) s)

/-- 0x86 STX zp (R138). -/
def execStxZp (b1 : Byte) (s : State) : Result :=
  .next (storeX (eaZp b1) s)

/-- 0x8E STX abs (R138). -/
def execStxAbs (b1 b2 : Byte) (s : State) : Result :=
  .next (storeX (eaAbs b1 b2) s)

/-- 0x96 STX zpy (R138). -/
def execStxZpy (b1 : Byte) (s : State) : Result :=
  .next (storeX (eaZpy b1 s) s)

/-- 0x84 STY zp (R139). -/
def execStyZp (b1 : Byte) (s : State) : Result :=
  .next (storeY (eaZp b1) s)

/-- 0x8C STY abs (R139). -/
def execStyAbs (b1 b2 : Byte) (s : State) : Result :=
  .next (storeY (eaAbs b1 b2) s)

/-- 0x94 STY zpx (R139). -/
def execStyZpx (b1 : Byte) (s : State) : Result :=
  .next (storeY (eaZpx b1 s) s)

/-- 0xAA TAX imp (R140). -/
def execTax (s : State) : Result :=
  .next (loadX s.a s)

/-- 0xA8 TAY imp (R141). -/
def execTay (s : State) : Result :=
  .next (loadY s.a s)

/-- 0xBA TSX imp (R142). -/
def execTsx (s : State) : Result :=
  .next (loadX s.sp s)

/-- 0x8A TXA imp (R143). -/
def execTxa (s : State) : Result :=
  .next (loadA s.x s)

/-- 0x9A TXS imp (R144). -/
def execTxs (s : State) : Result :=
  .next (s.setSp s.x)

/-- 0x98 TYA imp (R145). -/
def execTya (s : State) : Result :=
  .next (loadA s.y s)

end Sys2Proof.Machine
end

