-- ==== Sys2Proof/Machine/Arithmetic.lean ====
section
/-! DEFINITION. Arithmetic, logic, compare, increment and decrement (41_arithmetic_logic.md R150 to R171). -/

namespace Sys2Proof.Machine

/-! ### The operations of the family -/

/-- ADC of the operand `m` (R157). -/
def addWithCarry (m : Byte) (s : State) : State := s.accumulate (adcByMode s.a m s.p)

/-- SBC of the operand `m` (R171). -/
def subtractWithBorrow (m : Byte) (s : State) : State := s.accumulate (sbcByMode s.a m s.p)

/-- `A <- A and M; SetNZ(A)` (R158). -/
def andA (m : Byte) (s : State) : State := loadA (s.a &&& m) s

/-- `A <- A or M; SetNZ(A)` (R170). -/
def orA (m : Byte) (s : State) : State := loadA (s.a ||| m) s

/-- `A <- A xor M; SetNZ(A)` (R166). -/
def xorA (m : Byte) (s : State) : State := loadA (s.a ^^^ m) s

/-- BIT of the operand `m` (R159). -/
def bitTest (m : Byte) (s : State) : State := s.setP (bitFlags s.a m s.p)

/-- `Compare(A, M)` (R160). -/
def compareA (m : Byte) (s : State) : State := s.setP (compareFlags s.a m s.p)

/-- `Compare(X, M)` (R161). -/
def compareX (m : Byte) (s : State) : State := s.setP (compareFlags s.x m s.p)

/-- `Compare(Y, M)` (R162). -/
def compareY (m : Byte) (s : State) : State := s.setP (compareFlags s.y m s.p)

/-! ### The meanings, one per opcode value -/

/-- 0x61 ADC izx (R157). -/
def execAdcIzx (b1 : Byte) (s : State) : Result :=
  .next (addWithCarry (s.read (eaIzx b1 s)) s)

/-- 0x65 ADC zp (R157). -/
def execAdcZp (b1 : Byte) (s : State) : Result :=
  .next (addWithCarry (s.read (eaZp b1)) s)

/-- 0x69 ADC imm (R157). -/
def execAdcImm (b1 : Byte) (s : State) : Result :=
  .next (addWithCarry b1 s)

/-- 0x6D ADC abs (R157). -/
def execAdcAbs (b1 b2 : Byte) (s : State) : Result :=
  .next (addWithCarry (s.read (eaAbs b1 b2)) s)

/-- 0x71 ADC izy (R157). -/
def execAdcIzy (b1 : Byte) (s : State) : Result :=
  .next (addWithCarry (s.read (eaIzy b1 s)) s)

/-- 0x75 ADC zpx (R157). -/
def execAdcZpx (b1 : Byte) (s : State) : Result :=
  .next (addWithCarry (s.read (eaZpx b1 s)) s)

/-- 0x79 ADC aby (R157). -/
def execAdcAby (b1 b2 : Byte) (s : State) : Result :=
  .next (addWithCarry (s.read (eaAby b1 b2 s)) s)

/-- 0x7D ADC abx (R157). -/
def execAdcAbx (b1 b2 : Byte) (s : State) : Result :=
  .next (addWithCarry (s.read (eaAbx b1 b2 s)) s)

/-- 0x21 AND izx (R158). -/
def execAndIzx (b1 : Byte) (s : State) : Result :=
  .next (andA (s.read (eaIzx b1 s)) s)

/-- 0x25 AND zp (R158). -/
def execAndZp (b1 : Byte) (s : State) : Result :=
  .next (andA (s.read (eaZp b1)) s)

/-- 0x29 AND imm (R158). -/
def execAndImm (b1 : Byte) (s : State) : Result :=
  .next (andA b1 s)

/-- 0x2D AND abs (R158). -/
def execAndAbs (b1 b2 : Byte) (s : State) : Result :=
  .next (andA (s.read (eaAbs b1 b2)) s)

/-- 0x31 AND izy (R158). -/
def execAndIzy (b1 : Byte) (s : State) : Result :=
  .next (andA (s.read (eaIzy b1 s)) s)

/-- 0x35 AND zpx (R158). -/
def execAndZpx (b1 : Byte) (s : State) : Result :=
  .next (andA (s.read (eaZpx b1 s)) s)

/-- 0x39 AND aby (R158). -/
def execAndAby (b1 b2 : Byte) (s : State) : Result :=
  .next (andA (s.read (eaAby b1 b2 s)) s)

/-- 0x3D AND abx (R158). -/
def execAndAbx (b1 b2 : Byte) (s : State) : Result :=
  .next (andA (s.read (eaAbx b1 b2 s)) s)

/-- 0x24 BIT zp (R159). -/
def execBitZp (b1 : Byte) (s : State) : Result :=
  .next (bitTest (s.read (eaZp b1)) s)

/-- 0x2C BIT abs (R159). -/
def execBitAbs (b1 b2 : Byte) (s : State) : Result :=
  .next (bitTest (s.read (eaAbs b1 b2)) s)

/-- 0xC1 CMP izx (R160). -/
def execCmpIzx (b1 : Byte) (s : State) : Result :=
  .next (compareA (s.read (eaIzx b1 s)) s)

/-- 0xC5 CMP zp (R160). -/
def execCmpZp (b1 : Byte) (s : State) : Result :=
  .next (compareA (s.read (eaZp b1)) s)

/-- 0xC9 CMP imm (R160). -/
def execCmpImm (b1 : Byte) (s : State) : Result :=
  .next (compareA b1 s)

/-- 0xCD CMP abs (R160). -/
def execCmpAbs (b1 b2 : Byte) (s : State) : Result :=
  .next (compareA (s.read (eaAbs b1 b2)) s)

/-- 0xD1 CMP izy (R160). -/
def execCmpIzy (b1 : Byte) (s : State) : Result :=
  .next (compareA (s.read (eaIzy b1 s)) s)

/-- 0xD5 CMP zpx (R160). -/
def execCmpZpx (b1 : Byte) (s : State) : Result :=
  .next (compareA (s.read (eaZpx b1 s)) s)

/-- 0xD9 CMP aby (R160). -/
def execCmpAby (b1 b2 : Byte) (s : State) : Result :=
  .next (compareA (s.read (eaAby b1 b2 s)) s)

/-- 0xDD CMP abx (R160). -/
def execCmpAbx (b1 b2 : Byte) (s : State) : Result :=
  .next (compareA (s.read (eaAbx b1 b2 s)) s)

/-- 0xE0 CPX imm (R161). -/
def execCpxImm (b1 : Byte) (s : State) : Result :=
  .next (compareX b1 s)

/-- 0xE4 CPX zp (R161). -/
def execCpxZp (b1 : Byte) (s : State) : Result :=
  .next (compareX (s.read (eaZp b1)) s)

/-- 0xEC CPX abs (R161). -/
def execCpxAbs (b1 b2 : Byte) (s : State) : Result :=
  .next (compareX (s.read (eaAbs b1 b2)) s)

/-- 0xC0 CPY imm (R162). -/
def execCpyImm (b1 : Byte) (s : State) : Result :=
  .next (compareY b1 s)

/-- 0xC4 CPY zp (R162). -/
def execCpyZp (b1 : Byte) (s : State) : Result :=
  .next (compareY (s.read (eaZp b1)) s)

/-- 0xCC CPY abs (R162). -/
def execCpyAbs (b1 b2 : Byte) (s : State) : Result :=
  .next (compareY (s.read (eaAbs b1 b2)) s)

/-- 0xC6 DEC zp (R163). -/
def execDecZp (b1 : Byte) (s : State) : Result :=
  .next (s.modifyMem decCore (eaZp b1))

/-- 0xCE DEC abs (R163). -/
def execDecAbs (b1 b2 : Byte) (s : State) : Result :=
  .next (s.modifyMem decCore (eaAbs b1 b2))

/-- 0xD6 DEC zpx (R163). -/
def execDecZpx (b1 : Byte) (s : State) : Result :=
  .next (s.modifyMem decCore (eaZpx b1 s))

/-- 0xDE DEC abx (R163). -/
def execDecAbx (b1 b2 : Byte) (s : State) : Result :=
  .next (s.modifyMem decCore (eaAbx b1 b2 s))

/-- 0xCA DEX imp (R164). -/
def execDex (s : State) : Result :=
  .next (loadX (s.x - 1) s)

/-- 0x88 DEY imp (R165). -/
def execDey (s : State) : Result :=
  .next (loadY (s.y - 1) s)

/-- 0x41 EOR izx (R166). -/
def execEorIzx (b1 : Byte) (s : State) : Result :=
  .next (xorA (s.read (eaIzx b1 s)) s)

/-- 0x45 EOR zp (R166). -/
def execEorZp (b1 : Byte) (s : State) : Result :=
  .next (xorA (s.read (eaZp b1)) s)

/-- 0x49 EOR imm (R166). -/
def execEorImm (b1 : Byte) (s : State) : Result :=
  .next (xorA b1 s)

/-- 0x4D EOR abs (R166). -/
def execEorAbs (b1 b2 : Byte) (s : State) : Result :=
  .next (xorA (s.read (eaAbs b1 b2)) s)

/-- 0x51 EOR izy (R166). -/
def execEorIzy (b1 : Byte) (s : State) : Result :=
  .next (xorA (s.read (eaIzy b1 s)) s)

/-- 0x55 EOR zpx (R166). -/
def execEorZpx (b1 : Byte) (s : State) : Result :=
  .next (xorA (s.read (eaZpx b1 s)) s)

/-- 0x59 EOR aby (R166). -/
def execEorAby (b1 b2 : Byte) (s : State) : Result :=
  .next (xorA (s.read (eaAby b1 b2 s)) s)

/-- 0x5D EOR abx (R166). -/
def execEorAbx (b1 b2 : Byte) (s : State) : Result :=
  .next (xorA (s.read (eaAbx b1 b2 s)) s)

/-- 0xE6 INC zp (R167). -/
def execIncZp (b1 : Byte) (s : State) : Result :=
  .next (s.modifyMem incCore (eaZp b1))

/-- 0xEE INC abs (R167). -/
def execIncAbs (b1 b2 : Byte) (s : State) : Result :=
  .next (s.modifyMem incCore (eaAbs b1 b2))

/-- 0xF6 INC zpx (R167). -/
def execIncZpx (b1 : Byte) (s : State) : Result :=
  .next (s.modifyMem incCore (eaZpx b1 s))

/-- 0xFE INC abx (R167). -/
def execIncAbx (b1 b2 : Byte) (s : State) : Result :=
  .next (s.modifyMem incCore (eaAbx b1 b2 s))

/-- 0xE8 INX imp (R168). -/
def execInx (s : State) : Result :=
  .next (loadX (s.x + 1) s)

/-- 0xC8 INY imp (R169). -/
def execIny (s : State) : Result :=
  .next (loadY (s.y + 1) s)

/-- 0x01 ORA izx (R170). -/
def execOraIzx (b1 : Byte) (s : State) : Result :=
  .next (orA (s.read (eaIzx b1 s)) s)

/-- 0x05 ORA zp (R170). -/
def execOraZp (b1 : Byte) (s : State) : Result :=
  .next (orA (s.read (eaZp b1)) s)

/-- 0x09 ORA imm (R170). -/
def execOraImm (b1 : Byte) (s : State) : Result :=
  .next (orA b1 s)

/-- 0x0D ORA abs (R170). -/
def execOraAbs (b1 b2 : Byte) (s : State) : Result :=
  .next (orA (s.read (eaAbs b1 b2)) s)

/-- 0x11 ORA izy (R170). -/
def execOraIzy (b1 : Byte) (s : State) : Result :=
  .next (orA (s.read (eaIzy b1 s)) s)

/-- 0x15 ORA zpx (R170). -/
def execOraZpx (b1 : Byte) (s : State) : Result :=
  .next (orA (s.read (eaZpx b1 s)) s)

/-- 0x19 ORA aby (R170). -/
def execOraAby (b1 b2 : Byte) (s : State) : Result :=
  .next (orA (s.read (eaAby b1 b2 s)) s)

/-- 0x1D ORA abx (R170). -/
def execOraAbx (b1 b2 : Byte) (s : State) : Result :=
  .next (orA (s.read (eaAbx b1 b2 s)) s)

/-- 0xE1 SBC izx (R171). -/
def execSbcIzx (b1 : Byte) (s : State) : Result :=
  .next (subtractWithBorrow (s.read (eaIzx b1 s)) s)

/-- 0xE5 SBC zp (R171). -/
def execSbcZp (b1 : Byte) (s : State) : Result :=
  .next (subtractWithBorrow (s.read (eaZp b1)) s)

/-- 0xE9 SBC imm (R171). -/
def execSbcImm (b1 : Byte) (s : State) : Result :=
  .next (subtractWithBorrow b1 s)

/-- 0xEB SBC imm (R171). -/
def execSbcImmEB (b1 : Byte) (s : State) : Result :=
  .next (subtractWithBorrow b1 s)

/-- 0xED SBC abs (R171). -/
def execSbcAbs (b1 b2 : Byte) (s : State) : Result :=
  .next (subtractWithBorrow (s.read (eaAbs b1 b2)) s)

/-- 0xF1 SBC izy (R171). -/
def execSbcIzy (b1 : Byte) (s : State) : Result :=
  .next (subtractWithBorrow (s.read (eaIzy b1 s)) s)

/-- 0xF5 SBC zpx (R171). -/
def execSbcZpx (b1 : Byte) (s : State) : Result :=
  .next (subtractWithBorrow (s.read (eaZpx b1 s)) s)

/-- 0xF9 SBC aby (R171). -/
def execSbcAby (b1 b2 : Byte) (s : State) : Result :=
  .next (subtractWithBorrow (s.read (eaAby b1 b2 s)) s)

/-- 0xFD SBC abx (R171). -/
def execSbcAbx (b1 b2 : Byte) (s : State) : Result :=
  .next (subtractWithBorrow (s.read (eaAbx b1 b2 s)) s)

end Sys2Proof.Machine
end

