-- ==== Sys2Proof/Machine/Control.lean ====
section
/-! DEFINITION. Branches, jumps, subroutines, BRK and RTI (43_control_flow.md R190 to R203). pc is already NextPC (30_encoding.md R108). -/

namespace Sys2Proof.Machine

/-! ### The operations of the family -/

/-- `Branch(cond)` (R190). -/
def branch (cond : Bool) (b1 : Byte) (s : State) : State :=
  if cond then s.setPc (targetRel b1 s.pc) else s

/-- JSR: stack NextPC - 1, high byte first, and continue at the target (R201). -/
def callSubroutine (target : Addr) (s : State) : State := (s.push16 (s.pc - 1)).setPc target

/-- RTS: pull the address, low byte first, and continue one past it (R203). -/
def returnFromSubroutine (s : State) : State := s.afterPull.afterPull.setPc (s.pulled16 + 1)

/-! ### The meanings, one per opcode value -/

/-- 0x90 BCC rel (R191). -/
def execBcc (b1 : Byte) (s : State) : Result :=
  .next (branch (!s.p.c) b1 s)

/-- 0xB0 BCS rel (R192). -/
def execBcs (b1 : Byte) (s : State) : Result :=
  .next (branch s.p.c b1 s)

/-- 0xF0 BEQ rel (R193). -/
def execBeq (b1 : Byte) (s : State) : Result :=
  .next (branch s.p.z b1 s)

/-- 0x30 BMI rel (R194). -/
def execBmi (b1 : Byte) (s : State) : Result :=
  .next (branch s.p.n b1 s)

/-- 0xD0 BNE rel (R195). -/
def execBne (b1 : Byte) (s : State) : Result :=
  .next (branch (!s.p.z) b1 s)

/-- 0x10 BPL rel (R196). -/
def execBpl (b1 : Byte) (s : State) : Result :=
  .next (branch (!s.p.n) b1 s)

/-- 0x00 BRK imm (R197). -/
def execBrk (_b1 : Byte) (s : State) : Result :=
  .next (s.brkEntry)

/-- 0x50 BVC rel (R198). -/
def execBvc (b1 : Byte) (s : State) : Result :=
  .next (branch (!s.p.v) b1 s)

/-- 0x70 BVS rel (R199). -/
def execBvs (b1 : Byte) (s : State) : Result :=
  .next (branch s.p.v b1 s)

/-- 0x4C JMP adr (R200). -/
def execJmpAdr (b1 b2 : Byte) (s : State) : Result :=
  .next (s.setPc (eaAbs b1 b2))

/-- 0x6C JMP ind (R200). -/
def execJmpInd (b1 b2 : Byte) (s : State) : Result :=
  .next (s.setPc (targetInd b1 b2 s))

/-- 0x20 JSR adr (R201). -/
def execJsr (b1 b2 : Byte) (s : State) : Result :=
  .next (callSubroutine (eaAbs b1 b2) s)

/-- 0x40 RTI imp (R202). -/
def execRti (s : State) : Result :=
  .next (s.returnFromTrap)

/-- 0x60 RTS imp (R203). -/
def execRts (s : State) : Result :=
  .next (returnFromSubroutine s)

end Sys2Proof.Machine
end

