-- ==== Sys2Proof/Machine/FlagNop.lean ====
section
/-! DEFINITION. Flag instructions, NOP and HLT (44_flag_nop_hlt.md R210 to R218). -/

namespace Sys2Proof.Machine

/-! ### The operations of the family -/

/-- HLT: the processor stops, pc at the HLT opcode itself (R218). -/
def halt (s : State) : State := (s.setHalted true).setPc (s.pc - 1)

/-! ### The meanings, one per opcode value -/

/-- 0x18 CLC imp (R210). -/
def execClc (s : State) : Result :=
  .next (s.setP { s.p with c := false })

/-- 0xD8 CLD imp (R211). -/
def execCld (s : State) : Result :=
  .next (s.setP { s.p with d := false })

/-- 0x58 CLI imp (R212). -/
def execCli (s : State) : Result :=
  .next (s.setP { s.p with i := false })

/-- 0xB8 CLV imp (R213). -/
def execClv (s : State) : Result :=
  .next (s.setP { s.p with v := false })

/-- 0x38 SEC imp (R214). -/
def execSec (s : State) : Result :=
  .next (s.setP { s.p with c := true })

/-- 0xF8 SED imp (R215). -/
def execSed (s : State) : Result :=
  .next (s.setP { s.p with d := true })

/-- 0x78 SEI imp (R216). -/
def execSei (s : State) : Result :=
  .next (s.setP { s.p with i := true })

/-- 0x04 NOP zp (R217). -/
def execNop04 (b1 : Byte) (s : State) : Result :=
  .next (s.readDiscarded (eaZp b1))

/-- 0x0C NOP abs (R217). -/
def execNop0C (b1 b2 : Byte) (s : State) : Result :=
  .next (s.readDiscarded (eaAbs b1 b2))

/-- 0x14 NOP zpx (R217). -/
def execNop14 (b1 : Byte) (s : State) : Result :=
  .next (s.readDiscarded (eaZpx b1 s))

/-- 0x1A NOP imp (R217). -/
def execNop1A (s : State) : Result :=
  .next s

/-- 0x1C NOP abx (R217). -/
def execNop1C (b1 b2 : Byte) (s : State) : Result :=
  .next (s.readDiscarded (eaAbx b1 b2 s))

/-- 0x34 NOP zpx (R217). -/
def execNop34 (b1 : Byte) (s : State) : Result :=
  .next (s.readDiscarded (eaZpx b1 s))

/-- 0x3A NOP imp (R217). -/
def execNop3A (s : State) : Result :=
  .next s

/-- 0x3C NOP abx (R217). -/
def execNop3C (b1 b2 : Byte) (s : State) : Result :=
  .next (s.readDiscarded (eaAbx b1 b2 s))

/-- 0x44 NOP zp (R217). -/
def execNop44 (b1 : Byte) (s : State) : Result :=
  .next (s.readDiscarded (eaZp b1))

/-- 0x54 NOP zpx (R217). -/
def execNop54 (b1 : Byte) (s : State) : Result :=
  .next (s.readDiscarded (eaZpx b1 s))

/-- 0x5A NOP imp (R217). -/
def execNop5A (s : State) : Result :=
  .next s

/-- 0x5C NOP abx (R217). -/
def execNop5C (b1 b2 : Byte) (s : State) : Result :=
  .next (s.readDiscarded (eaAbx b1 b2 s))

/-- 0x64 NOP zp (R217). -/
def execNop64 (b1 : Byte) (s : State) : Result :=
  .next (s.readDiscarded (eaZp b1))

/-- 0x74 NOP zpx (R217). -/
def execNop74 (b1 : Byte) (s : State) : Result :=
  .next (s.readDiscarded (eaZpx b1 s))

/-- 0x7A NOP imp (R217). -/
def execNop7A (s : State) : Result :=
  .next s

/-- 0x7C NOP abx (R217). -/
def execNop7C (b1 b2 : Byte) (s : State) : Result :=
  .next (s.readDiscarded (eaAbx b1 b2 s))

/-- 0x80 NOP imp (R217). -/
def execNop80 (s : State) : Result :=
  .next s

/-- 0x80 NOP imm, the two-byte NOP of `OPC80_FORM = immediate2` (R217). -/
def execNop80Imm (_b1 : Byte) (s : State) : Result :=
  .next s

/-- 0x82 NOP imm, the two-byte NOP of `JAM3_FORM = nop_immediate2` (R217). -/
def execNop82Imm (_b1 : Byte) (s : State) : Result :=
  .next s

/-- 0x89 NOP imm (R217). -/
def execNop89 (_b1 : Byte) (s : State) : Result :=
  .next s

/-- 0xC2 NOP imm, the two-byte NOP of `JAM3_FORM = nop_immediate2` (R217). -/
def execNopC2Imm (_b1 : Byte) (s : State) : Result :=
  .next s

/-- 0xD4 NOP zpx (R217). -/
def execNopD4 (b1 : Byte) (s : State) : Result :=
  .next (s.readDiscarded (eaZpx b1 s))

/-- 0xDA NOP imp (R217). -/
def execNopDA (s : State) : Result :=
  .next s

/-- 0xDC NOP abx (R217). -/
def execNopDC (b1 b2 : Byte) (s : State) : Result :=
  .next (s.readDiscarded (eaAbx b1 b2 s))

/-- 0xE2 NOP imm, the two-byte NOP of `JAM3_FORM = nop_immediate2` (R217). -/
def execNopE2Imm (_b1 : Byte) (s : State) : Result :=
  .next s

/-- 0xEA NOP imp (R217). -/
def execNop (s : State) : Result :=
  .next s

/-- 0xF4 NOP zpx (R217). -/
def execNopF4 (b1 : Byte) (s : State) : Result :=
  .next (s.readDiscarded (eaZpx b1 s))

/-- 0xFA NOP imp (R217). -/
def execNopFA (s : State) : Result :=
  .next s

/-- 0xFC NOP abx (R217). -/
def execNopFC (b1 b2 : Byte) (s : State) : Result :=
  .next (s.readDiscarded (eaAbx b1 b2 s))

/-- 0x02 HLT imp (R218). -/
def execHlt02 (s : State) : Result :=
  .next (halt s)

/-- 0x12 HLT imp (R218). -/
def execHlt12 (s : State) : Result :=
  .next (halt s)

/-- 0x22 HLT imp (R218). -/
def execHlt22 (s : State) : Result :=
  .next (halt s)

/-- 0x32 HLT imp (R218). -/
def execHlt32 (s : State) : Result :=
  .next (halt s)

/-- 0x42 HLT imp (R218). -/
def execHlt42 (s : State) : Result :=
  .next (halt s)

/-- 0x52 HLT imp (R218). -/
def execHlt52 (s : State) : Result :=
  .next (halt s)

/-- 0x62 HLT imp (R218). -/
def execHlt62 (s : State) : Result :=
  .next (halt s)

/-- 0x72 HLT imp (R218). -/
def execHlt72 (s : State) : Result :=
  .next (halt s)

/-- 0x82 HLT imp (R218). -/
def execHlt82 (s : State) : Result :=
  .next (halt s)

/-- 0x92 HLT imp (R218). -/
def execHlt92 (s : State) : Result :=
  .next (halt s)

/-- 0xB2 HLT imp (R218). -/
def execHltB2 (s : State) : Result :=
  .next (halt s)

/-- 0xC2 HLT imp (R218). -/
def execHltC2 (s : State) : Result :=
  .next (halt s)

/-- 0xD2 HLT imp (R218). -/
def execHltD2 (s : State) : Result :=
  .next (halt s)

/-- 0xE2 HLT imp (R218). -/
def execHltE2 (s : State) : Result :=
  .next (halt s)

/-- 0xF2 HLT imp (R218). -/
def execHltF2 (s : State) : Result :=
  .next (halt s)

end Sys2Proof.Machine
end

