-- ==== Sys2Proof/Machine/Shift.lean ====
section
/-! DEFINITION. Shifts and rotates (42_shift_rotate.md R180 to R184). -/

namespace Sys2Proof.Machine

/-! ### The meanings, one per opcode value -/

/-- 0x06 ASL zp (R181). -/
def execAslZp (b1 : Byte) (s : State) : Result :=
  .next (s.modifyMem aslCore (eaZp b1))

/-- 0x0A ASL acc (R181). -/
def execAslAcc (s : State) : Result :=
  .next (s.modifyA aslCore)

/-- 0x0E ASL abs (R181). -/
def execAslAbs (b1 b2 : Byte) (s : State) : Result :=
  .next (s.modifyMem aslCore (eaAbs b1 b2))

/-- 0x16 ASL zpx (R181). -/
def execAslZpx (b1 : Byte) (s : State) : Result :=
  .next (s.modifyMem aslCore (eaZpx b1 s))

/-- 0x1E ASL abx (R181). -/
def execAslAbx (b1 b2 : Byte) (s : State) : Result :=
  .next (s.modifyMem aslCore (eaAbx b1 b2 s))

/-- 0x46 LSR zp (R182). -/
def execLsrZp (b1 : Byte) (s : State) : Result :=
  .next (s.modifyMem lsrCore (eaZp b1))

/-- 0x4A LSR acc (R182). -/
def execLsrAcc (s : State) : Result :=
  .next (s.modifyA lsrCore)

/-- 0x4E LSR abs (R182). -/
def execLsrAbs (b1 b2 : Byte) (s : State) : Result :=
  .next (s.modifyMem lsrCore (eaAbs b1 b2))

/-- 0x56 LSR zpx (R182). -/
def execLsrZpx (b1 : Byte) (s : State) : Result :=
  .next (s.modifyMem lsrCore (eaZpx b1 s))

/-- 0x5E LSR abx (R182). -/
def execLsrAbx (b1 b2 : Byte) (s : State) : Result :=
  .next (s.modifyMem lsrCore (eaAbx b1 b2 s))

/-- 0x26 ROL zp (R183). -/
def execRolZp (b1 : Byte) (s : State) : Result :=
  .next (s.modifyMem rolCore (eaZp b1))

/-- 0x2A ROL acc (R183). -/
def execRolAcc (s : State) : Result :=
  .next (s.modifyA rolCore)

/-- 0x2E ROL abs (R183). -/
def execRolAbs (b1 b2 : Byte) (s : State) : Result :=
  .next (s.modifyMem rolCore (eaAbs b1 b2))

/-- 0x36 ROL zpx (R183). -/
def execRolZpx (b1 : Byte) (s : State) : Result :=
  .next (s.modifyMem rolCore (eaZpx b1 s))

/-- 0x3E ROL abx (R183). -/
def execRolAbx (b1 b2 : Byte) (s : State) : Result :=
  .next (s.modifyMem rolCore (eaAbx b1 b2 s))

/-- 0x66 ROR zp (R184). -/
def execRorZp (b1 : Byte) (s : State) : Result :=
  .next (s.modifyMem rorCore (eaZp b1))

/-- 0x6A ROR acc (R184). -/
def execRorAcc (s : State) : Result :=
  .next (s.modifyA rorCore)

/-- 0x6E ROR abs (R184). -/
def execRorAbs (b1 b2 : Byte) (s : State) : Result :=
  .next (s.modifyMem rorCore (eaAbs b1 b2))

/-- 0x76 ROR zpx (R184). -/
def execRorZpx (b1 : Byte) (s : State) : Result :=
  .next (s.modifyMem rorCore (eaZpx b1 s))

/-- 0x7E ROR abx (R184). -/
def execRorAbx (b1 b2 : Byte) (s : State) : Result :=
  .next (s.modifyMem rorCore (eaAbx b1 b2 s))

end Sys2Proof.Machine
end

