-- ==== Sys2Proof/Machine/UndocImmediate.lean ====
section
/-! DEFINITION. Undocumented immediate operations (47_undoc_immediate.md R240 to R245). SBC 0xEB is in Arithmetic.lean (R246). -/

namespace Sys2Proof.Machine

/-! ### The operations of the family -/

/-- ALR (R240). -/
def andThenLsr (imm : Byte) (s : State) : State := s.accumulate (alrCore s.a imm s.p)

/-- ANC (R241). -/
def andThenCarry (imm : Byte) (s : State) : State := s.accumulate (ancCore s.a imm s.p)

/-- ANE, with the mask drawn for this execution (R242). -/
def andXUnstable (imm : Byte) (s : State) : State := loadA (aneResult s.aneMask s.a s.x imm) s.nextDraw

/-- ARR (R243). -/
def andThenRor (imm : Byte) (s : State) : State := s.accumulate (arrByMode s.a imm s.p)

/-- LXA, with the constant of the parameters (R244). -/
def orConstThenAnd (imm : Byte) (s : State) : State :=
  loadA (lxaResult s.params.lxaConst s.a imm) (s.setX (lxaResult s.params.lxaConst s.a imm))

/-- SBX (R245). -/
def andXSubtract (imm : Byte) (s : State) : State :=
  (s.setX (sbxCore s.a s.x imm s.p).1).setP (sbxCore s.a s.x imm s.p).2

/-! ### The meanings, one per opcode value -/

/-- 0x4B ALR imm (R240). -/
def execAlr (b1 : Byte) (s : State) : Result :=
  .next (andThenLsr b1 s)

/-- 0x0B ANC imm (R241). -/
def execAnc0B (b1 : Byte) (s : State) : Result :=
  .next (andThenCarry b1 s)

/-- 0x2B ANC imm (R241). -/
def execAnc2B (b1 : Byte) (s : State) : Result :=
  .next (andThenCarry b1 s)

/-- 0x8B ANE imm (R242). -/
def execAne (b1 : Byte) (s : State) : Result :=
  .next (andXUnstable b1 s)

/-- 0x6B ARR imm (R243). -/
def execArr (b1 : Byte) (s : State) : Result :=
  .next (andThenRor b1 s)

/-- 0xAB LXA imm (R244). -/
def execLxa (b1 : Byte) (s : State) : Result :=
  .next (orConstThenAnd b1 s)

/-- 0xCB SBX imm (R245). -/
def execSbx (b1 : Byte) (s : State) : Result :=
  .next (andXSubtract b1 s)

end Sys2Proof.Machine
end

