-- ==== Sys2Proof/Machine/UndocLoadStore.lean ====
section
/-! DEFINITION. Undocumented loads and stores (46_undoc_load_store.md R230 to R237). -/

namespace Sys2Proof.Machine

/-! ### The operations of the family -/

/-- LAX: `A <- M; X <- M; SetNZ(M)` (R231). -/
def loadAX (m : Byte) (s : State) : State := loadA m (s.setX m)

/-- LAS: `t <- M and S` to A, X and S, N and Z of t (R230). -/
def loadASX (m : Byte) (s : State) : State := loadAX (m &&& s.sp) (s.setSp (m &&& s.sp))

/-- `MemWrite(EA, 1, A and X)` (R232). -/
def storeAX (ea : Addr) (s : State) : State := s.write ea (s.a &&& s.x)

/-- The byte an SH store writes: the register term `and` the high byte of the base plus one, or the register term
alone where the term is dropped (R233). -/
def shValue (dropped : Bool) (reg : Byte) (base : Addr) : Byte :=
  if dropped then reg else reg &&& (hi base + 1)

/-- Where an SH store writes: at EA, or, on a page crossing, with the stored value as the high address byte (R233). -/
def shTarget (base ea : Addr) (v : Byte) : Addr := if pageCrossed base ea then cat v (lo ea) else ea

/-- `ShStore(reg)` (R233). -/
def shStore (reg : Byte) (base ea : Addr) (s : State) : State :=
  (s.write (shTarget base ea (shValue s.shDropped reg base)) (shValue s.shDropped reg base)).afterShDraw

/-! ### The meanings, one per opcode value -/

/-- 0xBB LAS aby (R230). -/
def execLas (b1 b2 : Byte) (s : State) : Result :=
  .next (loadASX (s.read (eaAby b1 b2 s)) s)

/-- 0xA3 LAX izx (R231). -/
def execLaxIzx (b1 : Byte) (s : State) : Result :=
  .next (loadAX (s.read (eaIzx b1 s)) s)

/-- 0xA7 LAX zp (R231). -/
def execLaxZp (b1 : Byte) (s : State) : Result :=
  .next (loadAX (s.read (eaZp b1)) s)

/-- 0xAF LAX abs (R231). -/
def execLaxAbs (b1 b2 : Byte) (s : State) : Result :=
  .next (loadAX (s.read (eaAbs b1 b2)) s)

/-- 0xB3 LAX izy (R231). -/
def execLaxIzy (b1 : Byte) (s : State) : Result :=
  .next (loadAX (s.read (eaIzy b1 s)) s)

/-- 0xB7 LAX zpy (R231). -/
def execLaxZpy (b1 : Byte) (s : State) : Result :=
  .next (loadAX (s.read (eaZpy b1 s)) s)

/-- 0xBF LAX aby (R231). -/
def execLaxAby (b1 b2 : Byte) (s : State) : Result :=
  .next (loadAX (s.read (eaAby b1 b2 s)) s)

/-- 0x83 SAX izx (R232). -/
def execSaxIzx (b1 : Byte) (s : State) : Result :=
  .next (storeAX (eaIzx b1 s) s)

/-- 0x87 SAX zp (R232). -/
def execSaxZp (b1 : Byte) (s : State) : Result :=
  .next (storeAX (eaZp b1) s)

/-- 0x8F SAX abs (R232). -/
def execSaxAbs (b1 b2 : Byte) (s : State) : Result :=
  .next (storeAX (eaAbs b1 b2) s)

/-- 0x97 SAX zpy (R232). -/
def execSaxZpy (b1 : Byte) (s : State) : Result :=
  .next (storeAX (eaZpy b1 s) s)

/-- 0x93 SHA izy (R234). -/
def execShaIzy (b1 : Byte) (s : State) : Result :=
  .next (shStore (s.a &&& s.x) (baseIzy b1 s) (eaIzy b1 s) s)

/-- 0x9F SHA aby (R234). -/
def execShaAby (b1 b2 : Byte) (s : State) : Result :=
  .next (shStore (s.a &&& s.x) (eaAbs b1 b2) (eaAby b1 b2 s) s)

/-- 0x9B SHS aby (R235). -/
def execShs (b1 b2 : Byte) (s : State) : Result :=
  .next (shStore (s.a &&& s.x) (eaAbs b1 b2) (eaAby b1 b2 s) (s.setSp (s.a &&& s.x)))

/-- 0x9E SHX aby (R236). -/
def execShx (b1 b2 : Byte) (s : State) : Result :=
  .next (shStore s.x (eaAbs b1 b2) (eaAby b1 b2 s) s)

/-- 0x9C SHY abx (R237). -/
def execShy (b1 b2 : Byte) (s : State) : Result :=
  .next (shStore s.y (eaAbs b1 b2) (eaAbx b1 b2 s) s)

end Sys2Proof.Machine
end

