-- ==== Sys2Proof/Machine/UndocRmw.lean ====
section
/-! DEFINITION. Undocumented read-modify-write combinations (45_undoc_rmw.md R220 to R226). -/

namespace Sys2Proof.Machine

/-! ### The meanings, one per opcode value -/

/-- 0x03 ASO izx (R221). -/
def execAsoIzx (b1 : Byte) (s : State) : Result :=
  .next (s.modifyMemThen aslCore orA (eaIzx b1 s))

/-- 0x07 ASO zp (R221). -/
def execAsoZp (b1 : Byte) (s : State) : Result :=
  .next (s.modifyMemThen aslCore orA (eaZp b1))

/-- 0x0F ASO abs (R221). -/
def execAsoAbs (b1 b2 : Byte) (s : State) : Result :=
  .next (s.modifyMemThen aslCore orA (eaAbs b1 b2))

/-- 0x13 ASO izy (R221). -/
def execAsoIzy (b1 : Byte) (s : State) : Result :=
  .next (s.modifyMemThen aslCore orA (eaIzy b1 s))

/-- 0x17 ASO zpx (R221). -/
def execAsoZpx (b1 : Byte) (s : State) : Result :=
  .next (s.modifyMemThen aslCore orA (eaZpx b1 s))

/-- 0x1B ASO aby (R221). -/
def execAsoAby (b1 b2 : Byte) (s : State) : Result :=
  .next (s.modifyMemThen aslCore orA (eaAby b1 b2 s))

/-- 0x1F ASO abx (R221). -/
def execAsoAbx (b1 b2 : Byte) (s : State) : Result :=
  .next (s.modifyMemThen aslCore orA (eaAbx b1 b2 s))

/-- 0xC3 DCM izx (R222). -/
def execDcmIzx (b1 : Byte) (s : State) : Result :=
  .next (s.modifyMemThen decCore compareA (eaIzx b1 s))

/-- 0xC7 DCM zp (R222). -/
def execDcmZp (b1 : Byte) (s : State) : Result :=
  .next (s.modifyMemThen decCore compareA (eaZp b1))

/-- 0xCF DCM abs (R222). -/
def execDcmAbs (b1 b2 : Byte) (s : State) : Result :=
  .next (s.modifyMemThen decCore compareA (eaAbs b1 b2))

/-- 0xD3 DCM izy (R222). -/
def execDcmIzy (b1 : Byte) (s : State) : Result :=
  .next (s.modifyMemThen decCore compareA (eaIzy b1 s))

/-- 0xD7 DCM zpx (R222). -/
def execDcmZpx (b1 : Byte) (s : State) : Result :=
  .next (s.modifyMemThen decCore compareA (eaZpx b1 s))

/-- 0xDB DCM aby (R222). -/
def execDcmAby (b1 b2 : Byte) (s : State) : Result :=
  .next (s.modifyMemThen decCore compareA (eaAby b1 b2 s))

/-- 0xDF DCM abx (R222). -/
def execDcmAbx (b1 b2 : Byte) (s : State) : Result :=
  .next (s.modifyMemThen decCore compareA (eaAbx b1 b2 s))

/-- 0xE3 INS izx (R223). -/
def execInsIzx (b1 : Byte) (s : State) : Result :=
  .next (s.modifyMemThen incCore subtractWithBorrow (eaIzx b1 s))

/-- 0xE7 INS zp (R223). -/
def execInsZp (b1 : Byte) (s : State) : Result :=
  .next (s.modifyMemThen incCore subtractWithBorrow (eaZp b1))

/-- 0xEF INS abs (R223). -/
def execInsAbs (b1 b2 : Byte) (s : State) : Result :=
  .next (s.modifyMemThen incCore subtractWithBorrow (eaAbs b1 b2))

/-- 0xF3 INS izy (R223). -/
def execInsIzy (b1 : Byte) (s : State) : Result :=
  .next (s.modifyMemThen incCore subtractWithBorrow (eaIzy b1 s))

/-- 0xF7 INS zpx (R223). -/
def execInsZpx (b1 : Byte) (s : State) : Result :=
  .next (s.modifyMemThen incCore subtractWithBorrow (eaZpx b1 s))

/-- 0xFB INS aby (R223). -/
def execInsAby (b1 b2 : Byte) (s : State) : Result :=
  .next (s.modifyMemThen incCore subtractWithBorrow (eaAby b1 b2 s))

/-- 0xFF INS abx (R223). -/
def execInsAbx (b1 b2 : Byte) (s : State) : Result :=
  .next (s.modifyMemThen incCore subtractWithBorrow (eaAbx b1 b2 s))

/-- 0x43 LSE izx (R224). -/
def execLseIzx (b1 : Byte) (s : State) : Result :=
  .next (s.modifyMemThen lsrCore xorA (eaIzx b1 s))

/-- 0x47 LSE zp (R224). -/
def execLseZp (b1 : Byte) (s : State) : Result :=
  .next (s.modifyMemThen lsrCore xorA (eaZp b1))

/-- 0x4F LSE abs (R224). -/
def execLseAbs (b1 b2 : Byte) (s : State) : Result :=
  .next (s.modifyMemThen lsrCore xorA (eaAbs b1 b2))

/-- 0x53 LSE izy (R224). -/
def execLseIzy (b1 : Byte) (s : State) : Result :=
  .next (s.modifyMemThen lsrCore xorA (eaIzy b1 s))

/-- 0x57 LSE zpx (R224). -/
def execLseZpx (b1 : Byte) (s : State) : Result :=
  .next (s.modifyMemThen lsrCore xorA (eaZpx b1 s))

/-- 0x5B LSE aby (R224). -/
def execLseAby (b1 b2 : Byte) (s : State) : Result :=
  .next (s.modifyMemThen lsrCore xorA (eaAby b1 b2 s))

/-- 0x5F LSE abx (R224). -/
def execLseAbx (b1 b2 : Byte) (s : State) : Result :=
  .next (s.modifyMemThen lsrCore xorA (eaAbx b1 b2 s))

/-- 0x23 RLA izx (R225). -/
def execRlaIzx (b1 : Byte) (s : State) : Result :=
  .next (s.modifyMemThen rolCore andA (eaIzx b1 s))

/-- 0x27 RLA zp (R225). -/
def execRlaZp (b1 : Byte) (s : State) : Result :=
  .next (s.modifyMemThen rolCore andA (eaZp b1))

/-- 0x2F RLA abs (R225). -/
def execRlaAbs (b1 b2 : Byte) (s : State) : Result :=
  .next (s.modifyMemThen rolCore andA (eaAbs b1 b2))

/-- 0x33 RLA izy (R225). -/
def execRlaIzy (b1 : Byte) (s : State) : Result :=
  .next (s.modifyMemThen rolCore andA (eaIzy b1 s))

/-- 0x37 RLA zpx (R225). -/
def execRlaZpx (b1 : Byte) (s : State) : Result :=
  .next (s.modifyMemThen rolCore andA (eaZpx b1 s))

/-- 0x3B RLA aby (R225). -/
def execRlaAby (b1 b2 : Byte) (s : State) : Result :=
  .next (s.modifyMemThen rolCore andA (eaAby b1 b2 s))

/-- 0x3F RLA abx (R225). -/
def execRlaAbx (b1 b2 : Byte) (s : State) : Result :=
  .next (s.modifyMemThen rolCore andA (eaAbx b1 b2 s))

/-- 0x63 RRA izx (R226). -/
def execRraIzx (b1 : Byte) (s : State) : Result :=
  .next (s.modifyMemThen rorCore addWithCarry (eaIzx b1 s))

/-- 0x67 RRA zp (R226). -/
def execRraZp (b1 : Byte) (s : State) : Result :=
  .next (s.modifyMemThen rorCore addWithCarry (eaZp b1))

/-- 0x6F RRA abs (R226). -/
def execRraAbs (b1 b2 : Byte) (s : State) : Result :=
  .next (s.modifyMemThen rorCore addWithCarry (eaAbs b1 b2))

/-- 0x73 RRA izy (R226). -/
def execRraIzy (b1 : Byte) (s : State) : Result :=
  .next (s.modifyMemThen rorCore addWithCarry (eaIzy b1 s))

/-- 0x77 RRA zpx (R226). -/
def execRraZpx (b1 : Byte) (s : State) : Result :=
  .next (s.modifyMemThen rorCore addWithCarry (eaZpx b1 s))

/-- 0x7B RRA aby (R226). -/
def execRraAby (b1 b2 : Byte) (s : State) : Result :=
  .next (s.modifyMemThen rorCore addWithCarry (eaAby b1 b2 s))

/-- 0x7F RRA abx (R226). -/
def execRraAbx (b1 b2 : Byte) (s : State) : Result :=
  .next (s.modifyMemThen rorCore addWithCarry (eaAbx b1 b2 s))

end Sys2Proof.Machine
end

