-- ==== Sys2Proof/Machine/Dispatch.lean ====
section
/-! DEFINITION. The dispatch: one arm per constructor of Instr, each one call of the instruction's meaning. -/

namespace Sys2Proof.Machine

open Sys2Proof

/-- What an instruction does in a state whose pc is already NextPC (30_encoding.md R108). -/
def exec (i : Instr) (s : State) : Host.Outcome State Fault Refusal :=
  match i with
  | .brk b1 => Sys2Proof.Machine.execBrk b1 s
  | .oraIzx b1 => Sys2Proof.Machine.execOraIzx b1 s
  | .hlt02 => Sys2Proof.Machine.execHlt02 s
  | .asoIzx b1 => Sys2Proof.Machine.execAsoIzx b1 s
  | .nop04 b1 => Sys2Proof.Machine.execNop04 b1 s
  | .oraZp b1 => Sys2Proof.Machine.execOraZp b1 s
  | .aslZp b1 => Sys2Proof.Machine.execAslZp b1 s
  | .asoZp b1 => Sys2Proof.Machine.execAsoZp b1 s
  | .php => Sys2Proof.Machine.execPhp s
  | .oraImm b1 => Sys2Proof.Machine.execOraImm b1 s
  | .aslAcc => Sys2Proof.Machine.execAslAcc s
  | .anc0B b1 => Sys2Proof.Machine.execAnc0B b1 s
  | .nop0C b1 b2 => Sys2Proof.Machine.execNop0C b1 b2 s
  | .oraAbs b1 b2 => Sys2Proof.Machine.execOraAbs b1 b2 s
  | .aslAbs b1 b2 => Sys2Proof.Machine.execAslAbs b1 b2 s
  | .asoAbs b1 b2 => Sys2Proof.Machine.execAsoAbs b1 b2 s
  | .bpl b1 => Sys2Proof.Machine.execBpl b1 s
  | .oraIzy b1 => Sys2Proof.Machine.execOraIzy b1 s
  | .hlt12 => Sys2Proof.Machine.execHlt12 s
  | .asoIzy b1 => Sys2Proof.Machine.execAsoIzy b1 s
  | .nop14 b1 => Sys2Proof.Machine.execNop14 b1 s
  | .oraZpx b1 => Sys2Proof.Machine.execOraZpx b1 s
  | .aslZpx b1 => Sys2Proof.Machine.execAslZpx b1 s
  | .asoZpx b1 => Sys2Proof.Machine.execAsoZpx b1 s
  | .clc => Sys2Proof.Machine.execClc s
  | .oraAby b1 b2 => Sys2Proof.Machine.execOraAby b1 b2 s
  | .nop1A => Sys2Proof.Machine.execNop1A s
  | .asoAby b1 b2 => Sys2Proof.Machine.execAsoAby b1 b2 s
  | .nop1C b1 b2 => Sys2Proof.Machine.execNop1C b1 b2 s
  | .oraAbx b1 b2 => Sys2Proof.Machine.execOraAbx b1 b2 s
  | .aslAbx b1 b2 => Sys2Proof.Machine.execAslAbx b1 b2 s
  | .asoAbx b1 b2 => Sys2Proof.Machine.execAsoAbx b1 b2 s
  | .jsr b1 b2 => Sys2Proof.Machine.execJsr b1 b2 s
  | .andIzx b1 => Sys2Proof.Machine.execAndIzx b1 s
  | .hlt22 => Sys2Proof.Machine.execHlt22 s
  | .rlaIzx b1 => Sys2Proof.Machine.execRlaIzx b1 s
  | .bitZp b1 => Sys2Proof.Machine.execBitZp b1 s
  | .andZp b1 => Sys2Proof.Machine.execAndZp b1 s
  | .rolZp b1 => Sys2Proof.Machine.execRolZp b1 s
  | .rlaZp b1 => Sys2Proof.Machine.execRlaZp b1 s
  | .plp => Sys2Proof.Machine.execPlp s
  | .andImm b1 => Sys2Proof.Machine.execAndImm b1 s
  | .rolAcc => Sys2Proof.Machine.execRolAcc s
  | .anc2B b1 => Sys2Proof.Machine.execAnc2B b1 s
  | .bitAbs b1 b2 => Sys2Proof.Machine.execBitAbs b1 b2 s
  | .andAbs b1 b2 => Sys2Proof.Machine.execAndAbs b1 b2 s
  | .rolAbs b1 b2 => Sys2Proof.Machine.execRolAbs b1 b2 s
  | .rlaAbs b1 b2 => Sys2Proof.Machine.execRlaAbs b1 b2 s
  | .bmi b1 => Sys2Proof.Machine.execBmi b1 s
  | .andIzy b1 => Sys2Proof.Machine.execAndIzy b1 s
  | .hlt32 => Sys2Proof.Machine.execHlt32 s
  | .rlaIzy b1 => Sys2Proof.Machine.execRlaIzy b1 s
  | .nop34 b1 => Sys2Proof.Machine.execNop34 b1 s
  | .andZpx b1 => Sys2Proof.Machine.execAndZpx b1 s
  | .rolZpx b1 => Sys2Proof.Machine.execRolZpx b1 s
  | .rlaZpx b1 => Sys2Proof.Machine.execRlaZpx b1 s
  | .sec => Sys2Proof.Machine.execSec s
  | .andAby b1 b2 => Sys2Proof.Machine.execAndAby b1 b2 s
  | .nop3A => Sys2Proof.Machine.execNop3A s
  | .rlaAby b1 b2 => Sys2Proof.Machine.execRlaAby b1 b2 s
  | .nop3C b1 b2 => Sys2Proof.Machine.execNop3C b1 b2 s
  | .andAbx b1 b2 => Sys2Proof.Machine.execAndAbx b1 b2 s
  | .rolAbx b1 b2 => Sys2Proof.Machine.execRolAbx b1 b2 s
  | .rlaAbx b1 b2 => Sys2Proof.Machine.execRlaAbx b1 b2 s
  | .rti => Sys2Proof.Machine.execRti s
  | .eorIzx b1 => Sys2Proof.Machine.execEorIzx b1 s
  | .hlt42 => Sys2Proof.Machine.execHlt42 s
  | .lseIzx b1 => Sys2Proof.Machine.execLseIzx b1 s
  | .nop44 b1 => Sys2Proof.Machine.execNop44 b1 s
  | .eorZp b1 => Sys2Proof.Machine.execEorZp b1 s
  | .lsrZp b1 => Sys2Proof.Machine.execLsrZp b1 s
  | .lseZp b1 => Sys2Proof.Machine.execLseZp b1 s
  | .pha => Sys2Proof.Machine.execPha s
  | .eorImm b1 => Sys2Proof.Machine.execEorImm b1 s
  | .lsrAcc => Sys2Proof.Machine.execLsrAcc s
  | .alr b1 => Sys2Proof.Machine.execAlr b1 s
  | .jmpAdr b1 b2 => Sys2Proof.Machine.execJmpAdr b1 b2 s
  | .eorAbs b1 b2 => Sys2Proof.Machine.execEorAbs b1 b2 s
  | .lsrAbs b1 b2 => Sys2Proof.Machine.execLsrAbs b1 b2 s
  | .lseAbs b1 b2 => Sys2Proof.Machine.execLseAbs b1 b2 s
  | .bvc b1 => Sys2Proof.Machine.execBvc b1 s
  | .eorIzy b1 => Sys2Proof.Machine.execEorIzy b1 s
  | .hlt52 => Sys2Proof.Machine.execHlt52 s
  | .lseIzy b1 => Sys2Proof.Machine.execLseIzy b1 s
  | .nop54 b1 => Sys2Proof.Machine.execNop54 b1 s
  | .eorZpx b1 => Sys2Proof.Machine.execEorZpx b1 s
  | .lsrZpx b1 => Sys2Proof.Machine.execLsrZpx b1 s
  | .lseZpx b1 => Sys2Proof.Machine.execLseZpx b1 s
  | .cli => Sys2Proof.Machine.execCli s
  | .eorAby b1 b2 => Sys2Proof.Machine.execEorAby b1 b2 s
  | .nop5A => Sys2Proof.Machine.execNop5A s
  | .lseAby b1 b2 => Sys2Proof.Machine.execLseAby b1 b2 s
  | .nop5C b1 b2 => Sys2Proof.Machine.execNop5C b1 b2 s
  | .eorAbx b1 b2 => Sys2Proof.Machine.execEorAbx b1 b2 s
  | .lsrAbx b1 b2 => Sys2Proof.Machine.execLsrAbx b1 b2 s
  | .lseAbx b1 b2 => Sys2Proof.Machine.execLseAbx b1 b2 s
  | .rts => Sys2Proof.Machine.execRts s
  | .adcIzx b1 => Sys2Proof.Machine.execAdcIzx b1 s
  | .hlt62 => Sys2Proof.Machine.execHlt62 s
  | .rraIzx b1 => Sys2Proof.Machine.execRraIzx b1 s
  | .nop64 b1 => Sys2Proof.Machine.execNop64 b1 s
  | .adcZp b1 => Sys2Proof.Machine.execAdcZp b1 s
  | .rorZp b1 => Sys2Proof.Machine.execRorZp b1 s
  | .rraZp b1 => Sys2Proof.Machine.execRraZp b1 s
  | .pla => Sys2Proof.Machine.execPla s
  | .adcImm b1 => Sys2Proof.Machine.execAdcImm b1 s
  | .rorAcc => Sys2Proof.Machine.execRorAcc s
  | .arr b1 => Sys2Proof.Machine.execArr b1 s
  | .jmpInd b1 b2 => Sys2Proof.Machine.execJmpInd b1 b2 s
  | .adcAbs b1 b2 => Sys2Proof.Machine.execAdcAbs b1 b2 s
  | .rorAbs b1 b2 => Sys2Proof.Machine.execRorAbs b1 b2 s
  | .rraAbs b1 b2 => Sys2Proof.Machine.execRraAbs b1 b2 s
  | .bvs b1 => Sys2Proof.Machine.execBvs b1 s
  | .adcIzy b1 => Sys2Proof.Machine.execAdcIzy b1 s
  | .hlt72 => Sys2Proof.Machine.execHlt72 s
  | .rraIzy b1 => Sys2Proof.Machine.execRraIzy b1 s
  | .nop74 b1 => Sys2Proof.Machine.execNop74 b1 s
  | .adcZpx b1 => Sys2Proof.Machine.execAdcZpx b1 s
  | .rorZpx b1 => Sys2Proof.Machine.execRorZpx b1 s
  | .rraZpx b1 => Sys2Proof.Machine.execRraZpx b1 s
  | .sei => Sys2Proof.Machine.execSei s
  | .adcAby b1 b2 => Sys2Proof.Machine.execAdcAby b1 b2 s
  | .nop7A => Sys2Proof.Machine.execNop7A s
  | .rraAby b1 b2 => Sys2Proof.Machine.execRraAby b1 b2 s
  | .nop7C b1 b2 => Sys2Proof.Machine.execNop7C b1 b2 s
  | .adcAbx b1 b2 => Sys2Proof.Machine.execAdcAbx b1 b2 s
  | .rorAbx b1 b2 => Sys2Proof.Machine.execRorAbx b1 b2 s
  | .rraAbx b1 b2 => Sys2Proof.Machine.execRraAbx b1 b2 s
  | .nop80 => Sys2Proof.Machine.execNop80 s
  | .staIzx b1 => Sys2Proof.Machine.execStaIzx b1 s
  | .hlt82 => Sys2Proof.Machine.execHlt82 s
  | .saxIzx b1 => Sys2Proof.Machine.execSaxIzx b1 s
  | .styZp b1 => Sys2Proof.Machine.execStyZp b1 s
  | .staZp b1 => Sys2Proof.Machine.execStaZp b1 s
  | .stxZp b1 => Sys2Proof.Machine.execStxZp b1 s
  | .saxZp b1 => Sys2Proof.Machine.execSaxZp b1 s
  | .dey => Sys2Proof.Machine.execDey s
  | .nop89 b1 => Sys2Proof.Machine.execNop89 b1 s
  | .txa => Sys2Proof.Machine.execTxa s
  | .ane b1 => Sys2Proof.Machine.execAne b1 s
  | .styAbs b1 b2 => Sys2Proof.Machine.execStyAbs b1 b2 s
  | .staAbs b1 b2 => Sys2Proof.Machine.execStaAbs b1 b2 s
  | .stxAbs b1 b2 => Sys2Proof.Machine.execStxAbs b1 b2 s
  | .saxAbs b1 b2 => Sys2Proof.Machine.execSaxAbs b1 b2 s
  | .bcc b1 => Sys2Proof.Machine.execBcc b1 s
  | .staIzy b1 => Sys2Proof.Machine.execStaIzy b1 s
  | .hlt92 => Sys2Proof.Machine.execHlt92 s
  | .shaIzy b1 => Sys2Proof.Machine.execShaIzy b1 s
  | .styZpx b1 => Sys2Proof.Machine.execStyZpx b1 s
  | .staZpx b1 => Sys2Proof.Machine.execStaZpx b1 s
  | .stxZpy b1 => Sys2Proof.Machine.execStxZpy b1 s
  | .saxZpy b1 => Sys2Proof.Machine.execSaxZpy b1 s
  | .tya => Sys2Proof.Machine.execTya s
  | .staAby b1 b2 => Sys2Proof.Machine.execStaAby b1 b2 s
  | .txs => Sys2Proof.Machine.execTxs s
  | .shs b1 b2 => Sys2Proof.Machine.execShs b1 b2 s
  | .shy b1 b2 => Sys2Proof.Machine.execShy b1 b2 s
  | .staAbx b1 b2 => Sys2Proof.Machine.execStaAbx b1 b2 s
  | .shx b1 b2 => Sys2Proof.Machine.execShx b1 b2 s
  | .shaAby b1 b2 => Sys2Proof.Machine.execShaAby b1 b2 s
  | .ldyImm b1 => Sys2Proof.Machine.execLdyImm b1 s
  | .ldaIzx b1 => Sys2Proof.Machine.execLdaIzx b1 s
  | .ldxImm b1 => Sys2Proof.Machine.execLdxImm b1 s
  | .laxIzx b1 => Sys2Proof.Machine.execLaxIzx b1 s
  | .ldyZp b1 => Sys2Proof.Machine.execLdyZp b1 s
  | .ldaZp b1 => Sys2Proof.Machine.execLdaZp b1 s
  | .ldxZp b1 => Sys2Proof.Machine.execLdxZp b1 s
  | .laxZp b1 => Sys2Proof.Machine.execLaxZp b1 s
  | .tay => Sys2Proof.Machine.execTay s
  | .ldaImm b1 => Sys2Proof.Machine.execLdaImm b1 s
  | .tax => Sys2Proof.Machine.execTax s
  | .lxa b1 => Sys2Proof.Machine.execLxa b1 s
  | .ldyAbs b1 b2 => Sys2Proof.Machine.execLdyAbs b1 b2 s
  | .ldaAbs b1 b2 => Sys2Proof.Machine.execLdaAbs b1 b2 s
  | .ldxAbs b1 b2 => Sys2Proof.Machine.execLdxAbs b1 b2 s
  | .laxAbs b1 b2 => Sys2Proof.Machine.execLaxAbs b1 b2 s
  | .bcs b1 => Sys2Proof.Machine.execBcs b1 s
  | .ldaIzy b1 => Sys2Proof.Machine.execLdaIzy b1 s
  | .hltB2 => Sys2Proof.Machine.execHltB2 s
  | .laxIzy b1 => Sys2Proof.Machine.execLaxIzy b1 s
  | .ldyZpx b1 => Sys2Proof.Machine.execLdyZpx b1 s
  | .ldaZpx b1 => Sys2Proof.Machine.execLdaZpx b1 s
  | .ldxZpy b1 => Sys2Proof.Machine.execLdxZpy b1 s
  | .laxZpy b1 => Sys2Proof.Machine.execLaxZpy b1 s
  | .clv => Sys2Proof.Machine.execClv s
  | .ldaAby b1 b2 => Sys2Proof.Machine.execLdaAby b1 b2 s
  | .tsx => Sys2Proof.Machine.execTsx s
  | .las b1 b2 => Sys2Proof.Machine.execLas b1 b2 s
  | .ldyAbx b1 b2 => Sys2Proof.Machine.execLdyAbx b1 b2 s
  | .ldaAbx b1 b2 => Sys2Proof.Machine.execLdaAbx b1 b2 s
  | .ldxAby b1 b2 => Sys2Proof.Machine.execLdxAby b1 b2 s
  | .laxAby b1 b2 => Sys2Proof.Machine.execLaxAby b1 b2 s
  | .cpyImm b1 => Sys2Proof.Machine.execCpyImm b1 s
  | .cmpIzx b1 => Sys2Proof.Machine.execCmpIzx b1 s
  | .hltC2 => Sys2Proof.Machine.execHltC2 s
  | .dcmIzx b1 => Sys2Proof.Machine.execDcmIzx b1 s
  | .cpyZp b1 => Sys2Proof.Machine.execCpyZp b1 s
  | .cmpZp b1 => Sys2Proof.Machine.execCmpZp b1 s
  | .decZp b1 => Sys2Proof.Machine.execDecZp b1 s
  | .dcmZp b1 => Sys2Proof.Machine.execDcmZp b1 s
  | .iny => Sys2Proof.Machine.execIny s
  | .cmpImm b1 => Sys2Proof.Machine.execCmpImm b1 s
  | .dex => Sys2Proof.Machine.execDex s
  | .sbx b1 => Sys2Proof.Machine.execSbx b1 s
  | .cpyAbs b1 b2 => Sys2Proof.Machine.execCpyAbs b1 b2 s
  | .cmpAbs b1 b2 => Sys2Proof.Machine.execCmpAbs b1 b2 s
  | .decAbs b1 b2 => Sys2Proof.Machine.execDecAbs b1 b2 s
  | .dcmAbs b1 b2 => Sys2Proof.Machine.execDcmAbs b1 b2 s
  | .bne b1 => Sys2Proof.Machine.execBne b1 s
  | .cmpIzy b1 => Sys2Proof.Machine.execCmpIzy b1 s
  | .hltD2 => Sys2Proof.Machine.execHltD2 s
  | .dcmIzy b1 => Sys2Proof.Machine.execDcmIzy b1 s
  | .nopD4 b1 => Sys2Proof.Machine.execNopD4 b1 s
  | .cmpZpx b1 => Sys2Proof.Machine.execCmpZpx b1 s
  | .decZpx b1 => Sys2Proof.Machine.execDecZpx b1 s
  | .dcmZpx b1 => Sys2Proof.Machine.execDcmZpx b1 s
  | .cld => Sys2Proof.Machine.execCld s
  | .cmpAby b1 b2 => Sys2Proof.Machine.execCmpAby b1 b2 s
  | .nopDA => Sys2Proof.Machine.execNopDA s
  | .dcmAby b1 b2 => Sys2Proof.Machine.execDcmAby b1 b2 s
  | .nopDC b1 b2 => Sys2Proof.Machine.execNopDC b1 b2 s
  | .cmpAbx b1 b2 => Sys2Proof.Machine.execCmpAbx b1 b2 s
  | .decAbx b1 b2 => Sys2Proof.Machine.execDecAbx b1 b2 s
  | .dcmAbx b1 b2 => Sys2Proof.Machine.execDcmAbx b1 b2 s
  | .cpxImm b1 => Sys2Proof.Machine.execCpxImm b1 s
  | .sbcIzx b1 => Sys2Proof.Machine.execSbcIzx b1 s
  | .hltE2 => Sys2Proof.Machine.execHltE2 s
  | .insIzx b1 => Sys2Proof.Machine.execInsIzx b1 s
  | .cpxZp b1 => Sys2Proof.Machine.execCpxZp b1 s
  | .sbcZp b1 => Sys2Proof.Machine.execSbcZp b1 s
  | .incZp b1 => Sys2Proof.Machine.execIncZp b1 s
  | .insZp b1 => Sys2Proof.Machine.execInsZp b1 s
  | .inx => Sys2Proof.Machine.execInx s
  | .sbcImm b1 => Sys2Proof.Machine.execSbcImm b1 s
  | .nop => Sys2Proof.Machine.execNop s
  | .sbcImmEB b1 => Sys2Proof.Machine.execSbcImmEB b1 s
  | .cpxAbs b1 b2 => Sys2Proof.Machine.execCpxAbs b1 b2 s
  | .sbcAbs b1 b2 => Sys2Proof.Machine.execSbcAbs b1 b2 s
  | .incAbs b1 b2 => Sys2Proof.Machine.execIncAbs b1 b2 s
  | .insAbs b1 b2 => Sys2Proof.Machine.execInsAbs b1 b2 s
  | .beq b1 => Sys2Proof.Machine.execBeq b1 s
  | .sbcIzy b1 => Sys2Proof.Machine.execSbcIzy b1 s
  | .hltF2 => Sys2Proof.Machine.execHltF2 s
  | .insIzy b1 => Sys2Proof.Machine.execInsIzy b1 s
  | .nopF4 b1 => Sys2Proof.Machine.execNopF4 b1 s
  | .sbcZpx b1 => Sys2Proof.Machine.execSbcZpx b1 s
  | .incZpx b1 => Sys2Proof.Machine.execIncZpx b1 s
  | .insZpx b1 => Sys2Proof.Machine.execInsZpx b1 s
  | .sed => Sys2Proof.Machine.execSed s
  | .sbcAby b1 b2 => Sys2Proof.Machine.execSbcAby b1 b2 s
  | .nopFA => Sys2Proof.Machine.execNopFA s
  | .insAby b1 b2 => Sys2Proof.Machine.execInsAby b1 b2 s
  | .nopFC b1 b2 => Sys2Proof.Machine.execNopFC b1 b2 s
  | .sbcAbx b1 b2 => Sys2Proof.Machine.execSbcAbx b1 b2 s
  | .incAbx b1 b2 => Sys2Proof.Machine.execIncAbx b1 b2 s
  | .insAbx b1 b2 => Sys2Proof.Machine.execInsAbx b1 b2 s
  | .nop80Imm b1 => Sys2Proof.Machine.execNop80Imm b1 s
  | .nop82Imm b1 => Sys2Proof.Machine.execNop82Imm b1 s
  | .nopC2Imm b1 => Sys2Proof.Machine.execNopC2Imm b1 s
  | .nopE2Imm b1 => Sys2Proof.Machine.execNopE2Imm b1 s

end Sys2Proof.Machine
end

