-- ==== Sys2Proof/Machine/Step.lean ====
section
/-! DEFINITION. One step of the machine (30_encoding.md R108), and placing an instruction where the next step fetches. -/

namespace Sys2Proof.Machine

/-- Fetch, decode, set pc to NextPC and perform the instruction (30_encoding.md R108). -/
def State.runInstruction (s : State) : Result :=
  match decode s.params s.fetch with
  | .instr i _ => exec i (s.setPc s.nextPc)
  | .rejected _ => .refused .undecodable

/-- What happens at a boundary once the inputs are sampled: reset first, then the halted state, then NMI, then IRQ, then
the next instruction (30_encoding.md R108, 60_exceptions.md R270). -/
def State.afterSampling (s : State) : Result :=
  if s.resetLine then .next s.resetEvent
  else if s.halted then .next s
  else if s.nmiPending then .next s.nmiEntry
  else if s.irqAccepted then .next s.irqEntry
  else s.runInstruction

/-- One step: sample the inputs at the boundary, then the reset, an interrupt entry, nothing (halted), or one
instruction (00_scope.md R11, 30_encoding.md R108). -/
def step (s : State) : Host.Outcome State Fault Refusal := s.sampleInputs.afterSampling

/-- `s` with the instruction whose first `nbits` bits are `w` (the others zero) at pc, running, with no input asserted and
no interrupt pending, so that the very next step fetches and runs it (log 12). -/
def State.withFetchWord (s : State) (nbits w : Nat) : State :=
  { ((s.write s.pc (tableByte nbits w 0)).write (s.pc + 1) (tableByte nbits w 1)).write (s.pc + 2) (tableByte nbits w 2)
    with halted := false, nmiPending := false, irqLine := false, resetLine := false, inputs := [] }

end Sys2Proof.Machine
end

