-- ==== Sys2Proof/Safety.lean ====
section
/-! DEFINITION. What claims about runs speak of: a step that goes on, the invariant of the states, and the end of a run. -/

namespace Sys2Proof.Machine

/-- An outcome that is a next state: neither a fault nor a refusal (60_exceptions.md R261: no instruction can fault). -/
def GoesOn (o : Result) : Prop := ∃ t, o = .next t

/-- The invariant of the states: memory is in canonical form (so that equal memories are equal data) and lies in the
65536 bytes of the address space (20_memory.md R50). -/
def State.wf (s : State) : Bool := s.mem.wf

/-- The run has ended: the machine is halted and no reset is asserted now or in the samples to come
(70_reset_and_hazards.md R301). -/
def State.ended (s : State) : Bool := s.halted && !s.resetLine && s.inputs.all (fun t => !t.reset)

end Sys2Proof.Machine
end

