-- ==== Sys2Proof/Certificates/Slice0/Obligations.lean ====
section
/-! DEFINITION. The statements for the provers, each `def Obligations.<Name> : Prop`, and the vocabulary they share. The
statements are made in terms of numbers and bits wherever the spec's rules are, not of the model's own helpers; the
exceptions are the address functions of the modes (Operands.lean) and of the stack, which EffectiveAddressesOfTheModes
and StackLiesInPageOneAndWraps state as numbers. `exec` is applied to states whose pc is already NextPC
(30_encoding.md R108); StepRunsTheDecodedInstruction joins `exec` to `step`. -/

namespace Sys2Proof.Claims

open Sys2Proof Sys2Proof.Machine

/-- A named part of the state. -/
inductive Part where
  | a | x | y | sp | pc | n | v | d | i | z | c
  | halted | nmiPending | irqLine | resetLine | inputs | mem | params | draws
deriving DecidableEq, Repr

/-- A part is the same in two states; memory is the same when every address reads the same. -/
def SamePart (s t : State) : Part → Prop
  | .a => t.a = s.a
  | .x => t.x = s.x
  | .y => t.y = s.y
  | .sp => t.sp = s.sp
  | .pc => t.pc = s.pc
  | .n => t.p.n = s.p.n
  | .v => t.p.v = s.p.v
  | .d => t.p.d = s.p.d
  | .i => t.p.i = s.p.i
  | .z => t.p.z = s.p.z
  | .c => t.p.c = s.p.c
  | .halted => t.halted = s.halted
  | .nmiPending => t.nmiPending = s.nmiPending
  | .irqLine => t.irqLine = s.irqLine
  | .resetLine => t.resetLine = s.resetLine
  | .inputs => t.inputs = s.inputs
  | .mem => ∀ b : Addr, t.read b = s.read b
  | .params => t.params = s.params
  | .draws => t.draws = s.draws

/-- The frame: every part that is not listed is the same. -/
def OnlyChanges (parts : List Part) (s t : State) : Prop := ∀ q, q ∉ parts → SamePart s t q

/-- The byte `v` is stored at `a`, and every other address reads as before. -/
def StoresOnly (a : Addr) (v : Byte) (s t : State) : Prop :=
  t.read a = v ∧ ∀ b : Addr, b ≠ a → t.read b = s.read b

/-- N is bit 7 of `v`, Z is 1 exactly when `v` is zero. -/
def FlagsNZ (v : Byte) (t : State) : Prop := t.p.n = v.getLsbD 7 ∧ (t.p.z = true ↔ v.toNat = 0)

/-- The instruction is encoded by the bytes and, in the state `s` (pc already NextPC), completes with a next state of
which `post` holds. -/
def Completes (i : Instr) (bytes : List Byte) (s : State) (post : State → Prop) : Prop :=
  encode i = bytes ∧ ∃ t, exec i s = .next t ∧ post t

/-- `w` in two bytes at the stack: high byte at 0x0100 + S, low byte one lower, S wrapping in page 1. -/
def Pushed16 (w : Addr) (s t : State) : Prop :=
  t.read (stackAddr s.sp) = hi w ∧ t.read (stackAddr (s.sp - 1)) = lo w ∧
    ∀ b : Addr, b ≠ stackAddr s.sp → b ≠ stackAddr (s.sp - 1) → t.read b = s.read b

/-- A trap entry: return address and status byte stacked, I set, pc from the vector (low byte first), S three lower,
and nothing else changed but the parts listed. -/
def EntersTrap (ret : Addr) (status : Byte) (vec : Addr) (also : List Part) (s t : State) : Prop :=
  t.read (stackAddr s.sp) = hi ret ∧ t.read (stackAddr (s.sp - 1)) = lo ret ∧
    t.read (stackAddr (s.sp - 2)) = status ∧
    (∀ b : Addr, b ≠ stackAddr s.sp → b ≠ stackAddr (s.sp - 1) → b ≠ stackAddr (s.sp - 2) → t.read b = s.read b) ∧
    t.sp = s.sp - 3 ∧ t.p.i = true ∧ t.pc = cat (s.read (vec + 1)) (s.read vec) ∧
    OnlyChanges ([.sp, .pc, .i, .mem] ++ also) s t

/-- The status byte N V 1 b D I Z C, as a sum of its bits. -/
def statusValue (b : Bool) (p : Status) : Nat :=
  128 * p.n.toNat + 64 * p.v.toNat + 32 + 16 * b.toNat + 8 * p.d.toNat + 4 * p.i.toNat + 2 * p.z.toNat + p.c.toNat

/-- The six flags are the bits 7, 6, 3, 2, 1, 0 of a byte. -/
def FlagsFrom (v : Byte) (t : State) : Prop :=
  t.p.n = v.getLsbD 7 ∧ t.p.v = v.getLsbD 6 ∧ t.p.d = v.getLsbD 3 ∧ t.p.i = v.getLsbD 2 ∧
    t.p.z = v.getLsbD 1 ∧ t.p.c = v.getLsbD 0

/-- Binary addition (41_arithmetic_logic.md R151): V exactly when the signed sum is outside -128..127. -/
def BinaryAdd (a m : Byte) (c : Bool) (t : State) : Prop :=
  t.a.toNat = (a.toNat + m.toNat + c.toNat) % 256 ∧
    (t.p.c = true ↔ a.toNat + m.toNat + c.toNat > 255) ∧
    (t.p.v = true ↔ a.toInt + m.toInt + (c.toNat : Int) < -128 ∨ 127 < a.toInt + m.toInt + (c.toNat : Int)) ∧
    FlagsNZ t.a t

/-- Decimal addition (41_arithmetic_logic.md R153), the rule's steps one by one. -/
def DecimalAdd (a m : Byte) (c : Bool) (t : State) : Prop :=
  ∃ low al w w' : Nat,
    low = a.toNat % 16 + m.toNat % 16 + c.toNat ∧
    al = (if 10 ≤ low then (low + 6) % 16 + 16 else low) ∧
    w = a.toNat / 16 * 16 + m.toNat / 16 * 16 + al ∧
    w' = (if 0xA0 ≤ w then w + 0x60 else w) ∧
    t.p.n = w.testBit 7 ∧
    (t.p.v = true ↔ a.getLsbD 7 = m.getLsbD 7 ∧ w.testBit 7 ≠ a.getLsbD 7) ∧
    (t.p.z = true ↔ (a.toNat + m.toNat + c.toNat) % 256 = 0) ∧
    (t.p.c = true ↔ 0x100 ≤ w') ∧
    t.a.toNat = w' % 256

/-- The flags of a subtraction, in both modes (41_arithmetic_logic.md R154, R155): C is "no borrow", V signed overflow of
the difference, N and Z of the binary difference. -/
def SubtractFlags (a m : Byte) (c : Bool) (t : State) : Prop :=
  (t.p.c = true ↔ m.toNat + (1 - c.toNat) ≤ a.toNat) ∧
    (t.p.v = true ↔ a.toInt - m.toInt - (1 - (c.toNat : Int)) < -128 ∨ 127 < a.toInt - m.toInt - (1 - (c.toNat : Int))) ∧
    (t.p.n = true ↔ 128 ≤ (a.toNat + (255 - m.toNat) + c.toNat) % 256) ∧
    (t.p.z = true ↔ (a.toNat + (255 - m.toNat) + c.toNat) % 256 = 0)

/-- Binary subtraction (41_arithmetic_logic.md R154). -/
def BinarySubtract (a m : Byte) (c : Bool) (t : State) : Prop :=
  t.a.toNat = (a.toNat + (255 - m.toNat) + c.toNat) % 256 ∧ SubtractFlags a m c t

/-- Decimal subtraction (41_arithmetic_logic.md R155), the rule's steps one by one; the flags are the binary ones. -/
def DecimalSubtract (a m : Byte) (c : Bool) (t : State) : Prop :=
  (∃ low al u u' : Int,
    low = (a.toNat % 16 : Int) - (m.toNat % 16 : Int) + (c.toNat : Int) - 1 ∧
    al = (if low < 0 then (low - 6) % 16 - 16 else low) ∧
    u = (a.toNat / 16 * 16 : Int) - (m.toNat / 16 * 16 : Int) + al ∧
    u' = (if u < 0 then u - 0x60 else u) ∧
    (t.a.toNat : Int) = u' % 256) ∧
    SubtractFlags a m c t

/-- What ADC does with the operand `m`. -/
def Adds (m : Byte) (s t : State) : Prop :=
  (if s.p.d then DecimalAdd s.a m s.p.c t else BinaryAdd s.a m s.p.c t) ∧ OnlyChanges [.a, .n, .v, .z, .c] s t

/-- What SBC does with the operand `m`. -/
def Subtracts (m : Byte) (s t : State) : Prop :=
  (if s.p.d then DecimalSubtract s.a m s.p.c t else BinarySubtract s.a m s.p.c t) ∧ OnlyChanges [.a, .n, .v, .z, .c] s t

/-- Compare of `r` with `m` (41_arithmetic_logic.md R152): the flags alone. -/
def Compares (r m : Byte) (t : State) : Prop :=
  (t.p.c = true ↔ m.toNat ≤ r.toNat) ∧ (t.p.z = true ↔ r = m) ∧
    (t.p.n = true ↔ 128 ≤ (r.toNat + 256 - m.toNat) % 256)

/-- A byte whose two digits are decimal. -/
def ValidBcd (v : Byte) : Prop := v.toNat / 16 ≤ 9 ∧ v.toNat % 16 ≤ 9

/-- The number two decimal digits stand for. -/
def bcdValue (v : Byte) : Nat := v.toNat / 16 * 10 + v.toNat % 16

/-- One byte at `ea` goes from `v` to `r`, and nothing else in memory changes. -/
def RewritesMemory (ea : Addr) (r : Nat) (s t : State) : Prop :=
  (t.read ea).toNat = r ∧ ∀ b : Addr, b ≠ ea → t.read b = s.read b

/-- A shift of a byte of value `v` to the value `r`, the bit `out` going to C (42_shift_rotate.md R180). -/
def ShiftFlags (r : Nat) (out : Bool) (t : State) : Prop :=
  t.p.c = out ∧ (t.p.n = true ↔ 128 ≤ r) ∧ (t.p.z = true ↔ r = 0)

/-- A shift or rotate of A. -/
def ShiftsA (r : Nat) (out : Bool) (s t : State) : Prop :=
  t.a.toNat = r ∧ ShiftFlags r out t ∧ OnlyChanges [.a, .n, .z, .c] s t

/-- A shift or rotate of the byte at `ea`; A is not touched. -/
def ShiftsMemory (ea : Addr) (r : Nat) (out : Bool) (s t : State) : Prop :=
  RewritesMemory ea r s t ∧ ShiftFlags r out t ∧ OnlyChanges [.mem, .n, .z, .c] s t

/-- The values the four shift cores give for a byte and the old carry (42_shift_rotate.md R180). -/
def aslValue (v : Byte) : Nat := v.toNat * 2 % 256
def lsrValue (v : Byte) : Nat := v.toNat / 2
def rolValue (v : Byte) (c : Bool) : Nat := v.toNat * 2 % 256 + c.toNat
def rorValue (v : Byte) (c : Bool) : Nat := v.toNat / 2 + c.toNat * 128

/-- A branch on `cond` with displacement `b1` from NextPC (43_control_flow.md R190). -/
def Branches (cond : Bool) (b1 : Byte) (s t : State) : Prop :=
  (t.pc.toNat : Int) = (if cond then ((s.pc.toNat : Int) + b1.toInt) % 65536 else s.pc.toNat) ∧ OnlyChanges [.pc] s t

/-- An SH store of the register term `reg` (46_undoc_load_store.md R233): the `and` term is dropped only where
`SH_UNSTABLE` is true, and then at the will of a free value; a page crossing makes the stored value the high address
byte. -/
def ShStores (reg : Byte) (base ea : Addr) (also : List Part) (s t : State) : Prop :=
  ∃ dropped : Bool, (s.params.shUnstable = false → dropped = false ∧ t.draws = s.draws) ∧
    (let v := if dropped then reg else reg &&& (hi base + 1)
     let target := if hi ea = hi base then ea else cat v (lo ea)
     StoresOnly target v s t) ∧
    OnlyChanges ([.mem, .draws] ++ also) s t

/-- The boundary with the inputs sampled lets the next instruction run: no reset, not halted, no NMI pending, and no IRQ
that I lets through (30_encoding.md R108). -/
def LetsInstructionRun (q : State) : Prop :=
  q.resetLine = false ∧ q.halted = false ∧ q.nmiPending = false ∧ (q.irqLine = false ∨ q.p.i = true)

/-- The opcode byte of an instruction. -/
def opcodeOf (i : Instr) : Byte := (encode i).headD 0

/-- The opcodes of the instructions 10_state.md R38 names as writers of A. -/
def opcodesWritingA : List Byte :=
  [0xA1, 0xA5, 0xA9, 0xAD, 0xB1, 0xB5, 0xB9, 0xBD, 0x68, 0x8A, 0x98, 0x61, 0x65, 0x69, 0x6D, 0x71,
   0x75, 0x79, 0x7D, 0xE1, 0xE5, 0xE9, 0xEB, 0xED, 0xF1, 0xF5, 0xF9, 0xFD, 0x21, 0x25, 0x29, 0x2D,
   0x31, 0x35, 0x39, 0x3D, 0x01, 0x05, 0x09, 0x0D, 0x11, 0x15, 0x19, 0x1D, 0x41, 0x45, 0x49, 0x4D,
   0x51, 0x55, 0x59, 0x5D, 0x0A, 0x4A, 0x2A, 0x6A, 0x03, 0x07, 0x0F, 0x13, 0x17, 0x1B, 0x1F, 0x23,
   0x27, 0x2F, 0x33, 0x37, 0x3B, 0x3F, 0x43, 0x47, 0x4F, 0x53, 0x57, 0x5B, 0x5F, 0x63, 0x67, 0x6F,
   0x73, 0x77, 0x7B, 0x7F, 0xE3, 0xE7, 0xEF, 0xF3, 0xF7, 0xFB, 0xFF, 0x4B, 0x0B, 0x2B, 0x8B, 0x6B,
   0xAB, 0xA3, 0xA7, 0xAF, 0xB3, 0xB7, 0xBF, 0xBB]

/-- Writers of X (10_state.md R38). -/
def opcodesWritingX : List Byte :=
  [0xA2, 0xA6, 0xAE, 0xB6, 0xBE, 0xAA, 0xBA, 0xE8, 0xCA, 0xA3, 0xA7, 0xAF, 0xB3, 0xB7, 0xBF, 0xAB,
   0xBB, 0xCB]

/-- Writers of Y (10_state.md R38). -/
def opcodesWritingY : List Byte :=
  [0xA0, 0xA4, 0xAC, 0xB4, 0xBC, 0xA8, 0xC8, 0x88]

/-- Writers of S (10_state.md R38). -/
def opcodesWritingS : List Byte :=
  [0x9A, 0xBB, 0x9B, 0x48, 0x08, 0x68, 0x28, 0x20, 0x60, 0x00, 0x40]

/-- Writers of memory (10_state.md R38). -/
def opcodesWritingMemory : List Byte :=
  [0x81, 0x85, 0x8D, 0x91, 0x95, 0x99, 0x9D, 0x86, 0x8E, 0x96, 0x84, 0x8C, 0x94, 0x83, 0x87, 0x8F,
   0x97, 0x93, 0x9F, 0x9E, 0x9C, 0x9B, 0xE6, 0xEE, 0xF6, 0xFE, 0xC6, 0xCE, 0xD6, 0xDE, 0x06, 0x0E,
   0x16, 0x1E, 0x46, 0x4E, 0x56, 0x5E, 0x26, 0x2E, 0x36, 0x3E, 0x66, 0x6E, 0x76, 0x7E, 0x03, 0x07,
   0x0F, 0x13, 0x17, 0x1B, 0x1F, 0x23, 0x27, 0x2F, 0x33, 0x37, 0x3B, 0x3F, 0x43, 0x47, 0x4F, 0x53,
   0x57, 0x5B, 0x5F, 0x63, 0x67, 0x6F, 0x73, 0x77, 0x7B, 0x7F, 0xC3, 0xC7, 0xCF, 0xD3, 0xD7, 0xDB,
   0xDF, 0xE3, 0xE7, 0xEF, 0xF3, 0xF7, 0xFB, 0xFF, 0x48, 0x08, 0x20, 0x00]

/-- Writers of N and Z: the instructions whose rules say SetNZ, and BIT, ADC, ARR, PLP, RTI (10_state.md R26, R32). -/
def opcodesWritingNZ : List Byte :=
  [0xA1, 0xA5, 0xA9, 0xAD, 0xB1, 0xB5, 0xB9, 0xBD, 0xA2, 0xA6, 0xAE, 0xB6, 0xBE, 0xA0, 0xA4, 0xAC,
   0xB4, 0xBC, 0xAA, 0xA8, 0xBA, 0x8A, 0x98, 0x68, 0x61, 0x65, 0x69, 0x6D, 0x71, 0x75, 0x79, 0x7D,
   0xE1, 0xE5, 0xE9, 0xEB, 0xED, 0xF1, 0xF5, 0xF9, 0xFD, 0x21, 0x25, 0x29, 0x2D, 0x31, 0x35, 0x39,
   0x3D, 0x01, 0x05, 0x09, 0x0D, 0x11, 0x15, 0x19, 0x1D, 0x41, 0x45, 0x49, 0x4D, 0x51, 0x55, 0x59,
   0x5D, 0x24, 0x2C, 0xC1, 0xC5, 0xC9, 0xCD, 0xD1, 0xD5, 0xD9, 0xDD, 0xE0, 0xE4, 0xEC, 0xC0, 0xC4,
   0xCC, 0xE6, 0xEE, 0xF6, 0xFE, 0xC6, 0xCE, 0xD6, 0xDE, 0xE8, 0xC8, 0xCA, 0x88, 0x06, 0x0A, 0x0E,
   0x16, 0x1E, 0x46, 0x4A, 0x4E, 0x56, 0x5E, 0x26, 0x2A, 0x2E, 0x36, 0x3E, 0x66, 0x6A, 0x6E, 0x76,
   0x7E, 0x03, 0x07, 0x0F, 0x13, 0x17, 0x1B, 0x1F, 0x23, 0x27, 0x2F, 0x33, 0x37, 0x3B, 0x3F, 0x43,
   0x47, 0x4F, 0x53, 0x57, 0x5B, 0x5F, 0x63, 0x67, 0x6F, 0x73, 0x77, 0x7B, 0x7F, 0xC3, 0xC7, 0xCF,
   0xD3, 0xD7, 0xDB, 0xDF, 0xE3, 0xE7, 0xEF, 0xF3, 0xF7, 0xFB, 0xFF, 0xA3, 0xA7, 0xAF, 0xB3, 0xB7,
   0xBF, 0xBB, 0x4B, 0x0B, 0x2B, 0x8B, 0x6B, 0xAB, 0xCB, 0x28, 0x40]

/-- Writers of V (10_state.md R27). -/
def opcodesWritingV : List Byte :=
  [0x61, 0x65, 0x69, 0x6D, 0x71, 0x75, 0x79, 0x7D, 0xE1, 0xE5, 0xE9, 0xEB, 0xED, 0xF1, 0xF5, 0xF9,
   0xFD, 0x24, 0x2C, 0x63, 0x67, 0x6F, 0x73, 0x77, 0x7B, 0x7F, 0xE3, 0xE7, 0xEF, 0xF3, 0xF7, 0xFB,
   0xFF, 0x6B, 0x28, 0x40, 0xB8]

/-- Writers of D (10_state.md R30). -/
def opcodesWritingD : List Byte :=
  [0xF8, 0xD8, 0x28, 0x40]

/-- Writers of I (10_state.md R31). -/
def opcodesWritingI : List Byte :=
  [0x78, 0x58, 0x00, 0x28, 0x40]

/-- Writers of C (10_state.md R33). -/
def opcodesWritingC : List Byte :=
  [0x38, 0x18, 0x61, 0x65, 0x69, 0x6D, 0x71, 0x75, 0x79, 0x7D, 0xE1, 0xE5, 0xE9, 0xEB, 0xED, 0xF1,
   0xF5, 0xF9, 0xFD, 0xC1, 0xC5, 0xC9, 0xCD, 0xD1, 0xD5, 0xD9, 0xDD, 0xE0, 0xE4, 0xEC, 0xC0, 0xC4,
   0xCC, 0xC3, 0xC7, 0xCF, 0xD3, 0xD7, 0xDB, 0xDF, 0xE3, 0xE7, 0xEF, 0xF3, 0xF7, 0xFB, 0xFF, 0xCB,
   0x06, 0x0A, 0x0E, 0x16, 0x1E, 0x46, 0x4A, 0x4E, 0x56, 0x5E, 0x26, 0x2A, 0x2E, 0x36, 0x3E, 0x66,
   0x6A, 0x6E, 0x76, 0x7E, 0x03, 0x07, 0x0F, 0x13, 0x17, 0x1B, 0x1F, 0x43, 0x47, 0x4F, 0x53, 0x57,
   0x5B, 0x5F, 0x23, 0x27, 0x2F, 0x33, 0x37, 0x3B, 0x3F, 0x63, 0x67, 0x6F, 0x73, 0x77, 0x7B, 0x7F,
   0x4B, 0x0B, 0x2B, 0x6B, 0x28, 0x40]

/-- The HLT opcodes (30_encoding.md R102). -/
def opcodesHalting : List Byte :=
  [0x02, 0x12, 0x22, 0x32, 0x42, 0x52, 0x62, 0x72, 0x82, 0x92, 0xB2, 0xC2, 0xD2, 0xE2, 0xF2]

end Sys2Proof.Claims

open Sys2Proof Sys2Proof.Machine Sys2Proof.Claims

/-- Power-on and a reset event leave the reset state. Power-on with any initial memory, and a step at a boundary
where RESET is seen asserted in any state (halted or not), leave: not halted, no NMI pending, I = 1, pc the
16-bit value at 0xFFFC (low byte first), memory unchanged. Nothing is said of A, X, Y, S, N, V, D, Z, C, which
the rule leaves unspecified; the event changes nothing else of the sampled state but the counter of drawn
values. (R290) -/
def Obligations.PowerOnAndResetEvent : Prop :=
  (∀ m : Memory,
    let r := State.powerOn m
    r.halted = false ∧ r.nmiPending = false ∧ r.p.i = true ∧ r.mem = m ∧
      r.pc = cat (m.read 0xFFFD) (m.read 0xFFFC)) ∧
  ∀ s : State, s.sampleInputs.resetLine = true → ∃ t, step s = .next t ∧
    t.halted = false ∧ t.nmiPending = false ∧ t.p.i = true ∧
    t.pc = cat (s.read 0xFFFD) (s.read 0xFFFC) ∧
    OnlyChanges [.a, .x, .y, .sp, .pc, .n, .v, .d, .i, .z, .c, .halted, .nmiPending, .draws] s.sampleInputs t

/-- The state after reset meets the invariant. Power-on with a memory in canonical form gives a state in canonical
form; in particular State.reset does. What State.reset holds in memory is the model's choice (log 11).
(10_state.md R35, R37, 70_reset_and_hazards.md R290, log 9, log 11, log 12) -/
def Obligations.ResetStateIsCanonical : Prop :=
  State.reset.wf = true ∧ ∀ m : Memory, m.wf = true → (State.powerOn m).wf = true

/-- A read gives the latest write; other addresses keep their byte. In every state, after a byte is written to an
address that address reads as the byte (to data reads, pointer reads and instruction fetches alike, which all
use the same read), and every other address of the 65536 reads as before. (20_memory.md R50, R57, R60) -/
def Obligations.MemoryReadAfterWrite : Prop :=
  ∀ (s : State) (a : Addr) (v : Byte), StoresOnly a v s (s.write a v) ∧ (∀ n, (s.write a v).bytesFrom a (n + 1) = v :: (s.write a v).bytesFrom (a + 1) n)

/-- The addressing modes compute the addresses the mode rules give. zp, zpx, zpy (wrapping modulo 256), abs, abx,
aby (modulo 65536), izx and izy (the pointer wraps in the zero page, izy adds Y modulo 65536), the base
addresses of abx, aby and izy, page crossing, the target of rel (signed displacement from NextPC modulo 65536),
the target of adr, and the target of ind (high byte from the pointer's own page), all as numbers. (R87, R88,
R89, R90, R91, R92, R93, R94, R95, R96, R97) -/
def Obligations.EffectiveAddressesOfTheModes : Prop :=
  ∀ (s : State) (b1 b2 : Byte) (next base : Addr),
    (eaZp b1).toNat = b1.toNat ∧
    (eaZpx b1 s).toNat = (b1.toNat + s.x.toNat) % 256 ∧
    (eaZpy b1 s).toNat = (b1.toNat + s.y.toNat) % 256 ∧
    (eaAbs b1 b2).toNat = b2.toNat * 256 + b1.toNat ∧
    (eaAbx b1 b2 s).toNat = (b2.toNat * 256 + b1.toNat + s.x.toNat) % 65536 ∧
    (eaAby b1 b2 s).toNat = (b2.toNat * 256 + b1.toNat + s.y.toNat) % 65536 ∧
    (eaIzx b1 s).toNat =
      (s.read (BitVec.ofNat 16 ((b1.toNat + s.x.toNat + 1) % 256))).toNat * 256 +
        (s.read (BitVec.ofNat 16 ((b1.toNat + s.x.toNat) % 256))).toNat ∧
    (baseIzy b1 s).toNat =
      (s.read (BitVec.ofNat 16 ((b1.toNat + 1) % 256))).toNat * 256 + (s.read (BitVec.ofNat 16 b1.toNat)).toNat ∧
    (eaIzy b1 s).toNat = ((baseIzy b1 s).toNat + s.y.toNat) % 65536 ∧
    (pageCrossed base next = true ↔ next.toNat / 256 ≠ base.toNat / 256) ∧
    ((targetRel b1 next).toNat : Int) = ((next.toNat : Int) + b1.toInt) % 65536 ∧
    (targetInd b1 b2 s).toNat =
      (s.read (BitVec.ofNat 16 (b2.toNat * 256 + (b1.toNat + 1) % 256))).toNat * 256 +
        (s.read (BitVec.ofNat 16 (b2.toNat * 256 + b1.toNat))).toNat

/-- Pushes and pulls use 0x0100 + S and wrap in page 1. A push stores at 0x0100 + S and leaves S one lower modulo
256; a pull leaves S one higher modulo 256 and reads 0x0100 + the new S; so a push with S = 0x00 stores at
0x0100 and leaves 0xFF, a pull with S = 0xFF leaves 0x00 and reads 0x0100. Nothing else changes; overflow is not
detected. (R52) -/
def Obligations.StackLiesInPageOneAndWraps : Prop :=
  (∀ sp : Byte, (stackAddr sp).toNat = 0x100 + sp.toNat) ∧
  ∀ (s : State) (v : Byte),
    StoresOnly (stackAddr s.sp) v s (s.push v) ∧
    (s.push v).sp.toNat = (s.sp.toNat + 255) % 256 ∧ OnlyChanges [.sp, .mem] s (s.push v) ∧
    s.pulled = s.read (stackAddr s.afterPull.sp) ∧
    s.afterPull.sp.toNat = (s.sp.toNat + 1) % 256 ∧ OnlyChanges [.sp] s s.afterPull

/-- The status byte is N V 1 B D I Z C, and a pull drops bits 5 and 4. The byte image of the flags has N at bit 7, V
at 6, 1 at bit 5, B at bit 4, D, I, Z, C at 3 to 0; reading flags from a byte takes those bits and ignores bits
5 and 4, so two bytes that differ only there give the same flags, and the flags read back from any image of them
are the flags. (R25, R28) -/
def Obligations.StatusByteLayout : Prop :=
  (∀ (b : Bool) (p : Status), (pbyte b p).toNat = statusValue b p ∧ statusOfByte (pbyte b p) = p) ∧
  (∀ (v : Byte), statusOfByte v =
    { n := v.getLsbD 7, v := v.getLsbD 6, d := v.getLsbD 3, i := v.getLsbD 2, z := v.getLsbD 1, c := v.getLsbD 0 }) ∧
  ∀ v w : Byte, v &&& 0xCF = w &&& 0xCF → statusOfByte v = statusOfByte w

/-- LDA, LDX, LDY: all forms load the operand and set N and Z. Every opcode of LDA, LDX and LDY, in every state,
completes: the register becomes the operand its mode delivers, N and Z are those of the operand, and every other
register, flag and byte of memory is unchanged (pc stays NextPC). (R130, R131, R132) -/
def Obligations.LoadsWriteTheirRegisterAndNZ : Prop :=
  ∀ (s : State) (b1 b2 : Byte),
  Completes (.ldaIzx b1) [0xA1, b1] s (fun t => t.a = (s.read (eaIzx b1 s)) ∧ FlagsNZ t.a t ∧ OnlyChanges [.a, .n, .z] s t) ∧
  Completes (.ldaZp b1) [0xA5, b1] s (fun t => t.a = (s.read (eaZp b1)) ∧ FlagsNZ t.a t ∧ OnlyChanges [.a, .n, .z] s t) ∧
  Completes (.ldaImm b1) [0xA9, b1] s (fun t => t.a = b1 ∧ FlagsNZ t.a t ∧ OnlyChanges [.a, .n, .z] s t) ∧
  Completes (.ldaAbs b1 b2) [0xAD, b1, b2] s (fun t => t.a = (s.read (eaAbs b1 b2)) ∧ FlagsNZ t.a t ∧ OnlyChanges [.a, .n, .z] s t) ∧
  Completes (.ldaIzy b1) [0xB1, b1] s (fun t => t.a = (s.read (eaIzy b1 s)) ∧ FlagsNZ t.a t ∧ OnlyChanges [.a, .n, .z] s t) ∧
  Completes (.ldaZpx b1) [0xB5, b1] s (fun t => t.a = (s.read (eaZpx b1 s)) ∧ FlagsNZ t.a t ∧ OnlyChanges [.a, .n, .z] s t) ∧
  Completes (.ldaAby b1 b2) [0xB9, b1, b2] s (fun t => t.a = (s.read (eaAby b1 b2 s)) ∧ FlagsNZ t.a t ∧ OnlyChanges [.a, .n, .z] s t) ∧
  Completes (.ldaAbx b1 b2) [0xBD, b1, b2] s (fun t => t.a = (s.read (eaAbx b1 b2 s)) ∧ FlagsNZ t.a t ∧ OnlyChanges [.a, .n, .z] s t) ∧
  Completes (.ldxImm b1) [0xA2, b1] s (fun t => t.x = b1 ∧ FlagsNZ t.x t ∧ OnlyChanges [.x, .n, .z] s t) ∧
  Completes (.ldxZp b1) [0xA6, b1] s (fun t => t.x = (s.read (eaZp b1)) ∧ FlagsNZ t.x t ∧ OnlyChanges [.x, .n, .z] s t) ∧
  Completes (.ldxAbs b1 b2) [0xAE, b1, b2] s (fun t => t.x = (s.read (eaAbs b1 b2)) ∧ FlagsNZ t.x t ∧ OnlyChanges [.x, .n, .z] s t) ∧
  Completes (.ldxZpy b1) [0xB6, b1] s (fun t => t.x = (s.read (eaZpy b1 s)) ∧ FlagsNZ t.x t ∧ OnlyChanges [.x, .n, .z] s t) ∧
  Completes (.ldxAby b1 b2) [0xBE, b1, b2] s (fun t => t.x = (s.read (eaAby b1 b2 s)) ∧ FlagsNZ t.x t ∧ OnlyChanges [.x, .n, .z] s t) ∧
  Completes (.ldyImm b1) [0xA0, b1] s (fun t => t.y = b1 ∧ FlagsNZ t.y t ∧ OnlyChanges [.y, .n, .z] s t) ∧
  Completes (.ldyZp b1) [0xA4, b1] s (fun t => t.y = (s.read (eaZp b1)) ∧ FlagsNZ t.y t ∧ OnlyChanges [.y, .n, .z] s t) ∧
  Completes (.ldyAbs b1 b2) [0xAC, b1, b2] s (fun t => t.y = (s.read (eaAbs b1 b2)) ∧ FlagsNZ t.y t ∧ OnlyChanges [.y, .n, .z] s t) ∧
  Completes (.ldyZpx b1) [0xB4, b1] s (fun t => t.y = (s.read (eaZpx b1 s)) ∧ FlagsNZ t.y t ∧ OnlyChanges [.y, .n, .z] s t) ∧
  Completes (.ldyAbx b1 b2) [0xBC, b1, b2] s (fun t => t.y = (s.read (eaAbx b1 b2 s)) ∧ FlagsNZ t.y t ∧ OnlyChanges [.y, .n, .z] s t)

/-- STA, STX, STY: all forms store the register at the effective address. Every opcode of STA, STX and STY, in every
state, completes: the byte at the effective address of its mode becomes the register, every other address reads
as before, and no register or flag changes. (R137, R138, R139) -/
def Obligations.StoresWriteOneByteAndNothingElse : Prop :=
  ∀ (s : State) (b1 b2 : Byte),
  Completes (.staIzx b1) [0x81, b1] s (fun t => StoresOnly (eaIzx b1 s) s.a s t ∧ OnlyChanges [.mem] s t) ∧
  Completes (.staZp b1) [0x85, b1] s (fun t => StoresOnly (eaZp b1) s.a s t ∧ OnlyChanges [.mem] s t) ∧
  Completes (.staAbs b1 b2) [0x8D, b1, b2] s (fun t => StoresOnly (eaAbs b1 b2) s.a s t ∧ OnlyChanges [.mem] s t) ∧
  Completes (.staIzy b1) [0x91, b1] s (fun t => StoresOnly (eaIzy b1 s) s.a s t ∧ OnlyChanges [.mem] s t) ∧
  Completes (.staZpx b1) [0x95, b1] s (fun t => StoresOnly (eaZpx b1 s) s.a s t ∧ OnlyChanges [.mem] s t) ∧
  Completes (.staAby b1 b2) [0x99, b1, b2] s (fun t => StoresOnly (eaAby b1 b2 s) s.a s t ∧ OnlyChanges [.mem] s t) ∧
  Completes (.staAbx b1 b2) [0x9D, b1, b2] s (fun t => StoresOnly (eaAbx b1 b2 s) s.a s t ∧ OnlyChanges [.mem] s t) ∧
  Completes (.stxZp b1) [0x86, b1] s (fun t => StoresOnly (eaZp b1) s.x s t ∧ OnlyChanges [.mem] s t) ∧
  Completes (.stxAbs b1 b2) [0x8E, b1, b2] s (fun t => StoresOnly (eaAbs b1 b2) s.x s t ∧ OnlyChanges [.mem] s t) ∧
  Completes (.stxZpy b1) [0x96, b1] s (fun t => StoresOnly (eaZpy b1 s) s.x s t ∧ OnlyChanges [.mem] s t) ∧
  Completes (.styZp b1) [0x84, b1] s (fun t => StoresOnly (eaZp b1) s.y s t ∧ OnlyChanges [.mem] s t) ∧
  Completes (.styAbs b1 b2) [0x8C, b1, b2] s (fun t => StoresOnly (eaAbs b1 b2) s.y s t ∧ OnlyChanges [.mem] s t) ∧
  Completes (.styZpx b1) [0x94, b1] s (fun t => StoresOnly (eaZpx b1 s) s.y s t ∧ OnlyChanges [.mem] s t)

/-- TAX, TAY, TSX, TXA, TYA move a register and set N, Z; TXS sets no flag. Each transfer, in every state,
completes: the destination becomes the source, N and Z are those of the value moved (TXS leaves them), and
nothing else changes. (R140, R141, R142, R143, R144, R145) -/
def Obligations.TransfersMoveARegister : Prop :=
  ∀ s : State,
  Completes .tax [0xAA] s (fun t => t.x = s.a ∧ FlagsNZ s.a t ∧ OnlyChanges [.x, .n, .z] s t) ∧
  Completes .tay [0xA8] s (fun t => t.y = s.a ∧ FlagsNZ s.a t ∧ OnlyChanges [.y, .n, .z] s t) ∧
  Completes .tsx [0xBA] s (fun t => t.x = s.sp ∧ FlagsNZ s.sp t ∧ OnlyChanges [.x, .n, .z] s t) ∧
  Completes .txa [0x8A] s (fun t => t.a = s.x ∧ FlagsNZ s.x t ∧ OnlyChanges [.a, .n, .z] s t) ∧
  Completes .txs [0x9A] s (fun t => t.sp = s.x ∧ OnlyChanges [.sp] s t) ∧
  Completes .tya [0x98] s (fun t => t.a = s.y ∧ FlagsNZ s.y t ∧ OnlyChanges [.a, .n, .z] s t)

/-- PHA pushes A; PHP pushes the status with bits 5 and 4 set. In every state PHA and PHP complete: A, respectively
the byte N V 1 1 D I Z C, is stored at 0x0100 + S, S becomes one lower modulo 256, every other byte of memory,
register and flag is unchanged. (R133, R134) -/
def Obligations.PushesOfAAndStatus : Prop :=
  ∀ s : State,
  Completes .pha [0x48] s (fun t => StoresOnly (stackAddr s.sp) s.a s t ∧ t.sp = s.sp - 1 ∧ OnlyChanges [.sp, .mem] s t) ∧
  Completes .php [0x08] s (fun t => StoresOnly (stackAddr s.sp) (BitVec.ofNat 8 (statusValue true s.p)) s t ∧ t.sp = s.sp - 1 ∧ OnlyChanges [.sp, .mem] s t)

/-- PLA pulls A and sets N, Z; PLP pulls all six flags. In every state PLA and PLP complete: S becomes one higher
modulo 256 and the byte at 0x0100 + the new S goes to A with N and Z of it, respectively its bits 7, 6, 3, 2, 1,
0 to the six flags; nothing else changes. (R135, R136) -/
def Obligations.PullsOfAAndStatus : Prop :=
  ∀ s : State,
  Completes .pla [0x68] s (fun t => t.a = s.read (stackAddr (s.sp + 1)) ∧ FlagsNZ t.a t ∧ t.sp = s.sp + 1 ∧ OnlyChanges [.a, .sp, .n, .z] s t) ∧
  Completes .plp [0x28] s (fun t => FlagsFrom (s.read (stackAddr (s.sp + 1))) t ∧ t.sp = s.sp + 1 ∧ OnlyChanges [.sp, .n, .v, .d, .i, .z, .c] s t)

/-- PLA after PHA restores A and S; PLP after PHP restores the flags and S. In every state, whatever A, X, Y and pc
become in between: if PHA completes and A, X, Y and pc are then given any values, PLA brings back the old A and
S; if PHP completes and the flags are then given any values, PLP brings back all six flags and S.
(40_load_store_transfer.md R133 to R136, 20_memory.md R52) -/
def Obligations.PushThenPullRestores : Prop :=
  ∀ (s t : State) (a x y : Byte) (pc : Addr) (p : Status),
    (exec .pha s = .next t → ∃ u, exec .pla { t with a := a, x := x, y := y, pc := pc, p := p } = .next u ∧
      u.a = s.a ∧ u.sp = s.sp) ∧
    (exec .php s = .next t → ∃ u, exec .plp { t with a := a, x := x, y := y, pc := pc, p := p } = .next u ∧
      u.p = s.p ∧ u.sp = s.sp)

/-- AND, EOR, ORA: all forms combine A with the operand bit by bit. Every opcode of AND, ORA and EOR, in every
state, completes: A becomes the bitwise and, or, exclusive or of A and the operand, N and Z are those of the new
A, and nothing else changes. (R158, R166, R170) -/
def Obligations.LogicOperationsOnA : Prop :=
  ∀ (s : State) (b1 b2 : Byte),
  Completes (.andIzx b1) [0x21, b1] s (fun t => t.a = s.a &&& (s.read (eaIzx b1 s)) ∧ FlagsNZ t.a t ∧ OnlyChanges [.a, .n, .z] s t) ∧
  Completes (.andZp b1) [0x25, b1] s (fun t => t.a = s.a &&& (s.read (eaZp b1)) ∧ FlagsNZ t.a t ∧ OnlyChanges [.a, .n, .z] s t) ∧
  Completes (.andImm b1) [0x29, b1] s (fun t => t.a = s.a &&& b1 ∧ FlagsNZ t.a t ∧ OnlyChanges [.a, .n, .z] s t) ∧
  Completes (.andAbs b1 b2) [0x2D, b1, b2] s (fun t => t.a = s.a &&& (s.read (eaAbs b1 b2)) ∧ FlagsNZ t.a t ∧ OnlyChanges [.a, .n, .z] s t) ∧
  Completes (.andIzy b1) [0x31, b1] s (fun t => t.a = s.a &&& (s.read (eaIzy b1 s)) ∧ FlagsNZ t.a t ∧ OnlyChanges [.a, .n, .z] s t) ∧
  Completes (.andZpx b1) [0x35, b1] s (fun t => t.a = s.a &&& (s.read (eaZpx b1 s)) ∧ FlagsNZ t.a t ∧ OnlyChanges [.a, .n, .z] s t) ∧
  Completes (.andAby b1 b2) [0x39, b1, b2] s (fun t => t.a = s.a &&& (s.read (eaAby b1 b2 s)) ∧ FlagsNZ t.a t ∧ OnlyChanges [.a, .n, .z] s t) ∧
  Completes (.andAbx b1 b2) [0x3D, b1, b2] s (fun t => t.a = s.a &&& (s.read (eaAbx b1 b2 s)) ∧ FlagsNZ t.a t ∧ OnlyChanges [.a, .n, .z] s t) ∧
  Completes (.oraIzx b1) [0x01, b1] s (fun t => t.a = s.a ||| (s.read (eaIzx b1 s)) ∧ FlagsNZ t.a t ∧ OnlyChanges [.a, .n, .z] s t) ∧
  Completes (.oraZp b1) [0x05, b1] s (fun t => t.a = s.a ||| (s.read (eaZp b1)) ∧ FlagsNZ t.a t ∧ OnlyChanges [.a, .n, .z] s t) ∧
  Completes (.oraImm b1) [0x09, b1] s (fun t => t.a = s.a ||| b1 ∧ FlagsNZ t.a t ∧ OnlyChanges [.a, .n, .z] s t) ∧
  Completes (.oraAbs b1 b2) [0x0D, b1, b2] s (fun t => t.a = s.a ||| (s.read (eaAbs b1 b2)) ∧ FlagsNZ t.a t ∧ OnlyChanges [.a, .n, .z] s t) ∧
  Completes (.oraIzy b1) [0x11, b1] s (fun t => t.a = s.a ||| (s.read (eaIzy b1 s)) ∧ FlagsNZ t.a t ∧ OnlyChanges [.a, .n, .z] s t) ∧
  Completes (.oraZpx b1) [0x15, b1] s (fun t => t.a = s.a ||| (s.read (eaZpx b1 s)) ∧ FlagsNZ t.a t ∧ OnlyChanges [.a, .n, .z] s t) ∧
  Completes (.oraAby b1 b2) [0x19, b1, b2] s (fun t => t.a = s.a ||| (s.read (eaAby b1 b2 s)) ∧ FlagsNZ t.a t ∧ OnlyChanges [.a, .n, .z] s t) ∧
  Completes (.oraAbx b1 b2) [0x1D, b1, b2] s (fun t => t.a = s.a ||| (s.read (eaAbx b1 b2 s)) ∧ FlagsNZ t.a t ∧ OnlyChanges [.a, .n, .z] s t) ∧
  Completes (.eorIzx b1) [0x41, b1] s (fun t => t.a = s.a ^^^ (s.read (eaIzx b1 s)) ∧ FlagsNZ t.a t ∧ OnlyChanges [.a, .n, .z] s t) ∧
  Completes (.eorZp b1) [0x45, b1] s (fun t => t.a = s.a ^^^ (s.read (eaZp b1)) ∧ FlagsNZ t.a t ∧ OnlyChanges [.a, .n, .z] s t) ∧
  Completes (.eorImm b1) [0x49, b1] s (fun t => t.a = s.a ^^^ b1 ∧ FlagsNZ t.a t ∧ OnlyChanges [.a, .n, .z] s t) ∧
  Completes (.eorAbs b1 b2) [0x4D, b1, b2] s (fun t => t.a = s.a ^^^ (s.read (eaAbs b1 b2)) ∧ FlagsNZ t.a t ∧ OnlyChanges [.a, .n, .z] s t) ∧
  Completes (.eorIzy b1) [0x51, b1] s (fun t => t.a = s.a ^^^ (s.read (eaIzy b1 s)) ∧ FlagsNZ t.a t ∧ OnlyChanges [.a, .n, .z] s t) ∧
  Completes (.eorZpx b1) [0x55, b1] s (fun t => t.a = s.a ^^^ (s.read (eaZpx b1 s)) ∧ FlagsNZ t.a t ∧ OnlyChanges [.a, .n, .z] s t) ∧
  Completes (.eorAby b1 b2) [0x59, b1, b2] s (fun t => t.a = s.a ^^^ (s.read (eaAby b1 b2 s)) ∧ FlagsNZ t.a t ∧ OnlyChanges [.a, .n, .z] s t) ∧
  Completes (.eorAbx b1 b2) [0x5D, b1, b2] s (fun t => t.a = s.a ^^^ (s.read (eaAbx b1 b2 s)) ∧ FlagsNZ t.a t ∧ OnlyChanges [.a, .n, .z] s t)

/-- BIT copies operand bits 7 and 6 to N and V and sets Z from the AND. Both opcodes of BIT, in every state,
complete: N and V are bits 7 and 6 of the operand, Z is 1 exactly when A and the operand have no common 1 bit,
and nothing else changes (A, C, D, I and memory included). (R159) -/
def Obligations.BitTestsTheOperand : Prop :=
  ∀ (s : State) (b1 b2 : Byte),
  Completes (.bitZp b1) [0x24, b1] s (fun t => t.p.n = (s.read (eaZp b1)).getLsbD 7 ∧ t.p.v = (s.read (eaZp b1)).getLsbD 6 ∧ (t.p.z = true ↔ (s.a &&& (s.read (eaZp b1))).toNat = 0) ∧ OnlyChanges [.n, .v, .z] s t) ∧
  Completes (.bitAbs b1 b2) [0x2C, b1, b2] s (fun t => t.p.n = (s.read (eaAbs b1 b2)).getLsbD 7 ∧ t.p.v = (s.read (eaAbs b1 b2)).getLsbD 6 ∧ (t.p.z = true ↔ (s.a &&& (s.read (eaAbs b1 b2))).toNat = 0) ∧ OnlyChanges [.n, .v, .z] s t)

/-- ADC: all forms, binary with D = 0 and decimal with D = 1. Every opcode of ADC, in every state, completes. With D
= 0: A is the sum of A, operand and C modulo 256, C its carry, V exactly when the signed sum is outside
-128..127, N and Z of the new A. With D = 1: A and the flags are those of the rule's decimal algorithm (N and V
from the sum before the high-digit correction, Z from the binary sum, C the decimal carry). Nothing else
changes. (R151, R153, R157) -/
def Obligations.AdcAddsInTheModeDSelects : Prop :=
  ∀ (s : State) (b1 b2 : Byte),
  Completes (.adcIzx b1) [0x61, b1] s (fun t => Adds (s.read (eaIzx b1 s)) s t) ∧
  Completes (.adcZp b1) [0x65, b1] s (fun t => Adds (s.read (eaZp b1)) s t) ∧
  Completes (.adcImm b1) [0x69, b1] s (fun t => Adds b1 s t) ∧
  Completes (.adcAbs b1 b2) [0x6D, b1, b2] s (fun t => Adds (s.read (eaAbs b1 b2)) s t) ∧
  Completes (.adcIzy b1) [0x71, b1] s (fun t => Adds (s.read (eaIzy b1 s)) s t) ∧
  Completes (.adcZpx b1) [0x75, b1] s (fun t => Adds (s.read (eaZpx b1 s)) s t) ∧
  Completes (.adcAby b1 b2) [0x79, b1, b2] s (fun t => Adds (s.read (eaAby b1 b2 s)) s t) ∧
  Completes (.adcAbx b1 b2) [0x7D, b1, b2] s (fun t => Adds (s.read (eaAbx b1 b2 s)) s t)

/-- ADC with D = 1 on valid decimal operands is addition modulo 100. For every opcode of ADC, with D = 1 and both A
and the operand valid two-digit decimal numbers: the new A is a valid decimal number, equal to the sum with C
modulo 100, and the new C is 1 exactly when the sum exceeds 99. (41_arithmetic_logic.md R153) -/
def Obligations.DecimalAdcIsDecimalAddition : Prop :=
  ∀ (s : State) (b1 b2 : Byte), s.p.d = true → ValidBcd s.a →
  (ValidBcd (s.read (eaIzx b1 s)) → ∃ t, exec (.adcIzx b1) s = .next t ∧ ValidBcd t.a ∧
    bcdValue t.a = (bcdValue s.a + bcdValue (s.read (eaIzx b1 s)) + s.p.c.toNat) % 100 ∧
    (t.p.c = true ↔ bcdValue s.a + bcdValue (s.read (eaIzx b1 s)) + s.p.c.toNat > 99)) ∧
  (ValidBcd (s.read (eaZp b1)) → ∃ t, exec (.adcZp b1) s = .next t ∧ ValidBcd t.a ∧
    bcdValue t.a = (bcdValue s.a + bcdValue (s.read (eaZp b1)) + s.p.c.toNat) % 100 ∧
    (t.p.c = true ↔ bcdValue s.a + bcdValue (s.read (eaZp b1)) + s.p.c.toNat > 99)) ∧
  (ValidBcd b1 → ∃ t, exec (.adcImm b1) s = .next t ∧ ValidBcd t.a ∧
    bcdValue t.a = (bcdValue s.a + bcdValue b1 + s.p.c.toNat) % 100 ∧
    (t.p.c = true ↔ bcdValue s.a + bcdValue b1 + s.p.c.toNat > 99)) ∧
  (ValidBcd (s.read (eaAbs b1 b2)) → ∃ t, exec (.adcAbs b1 b2) s = .next t ∧ ValidBcd t.a ∧
    bcdValue t.a = (bcdValue s.a + bcdValue (s.read (eaAbs b1 b2)) + s.p.c.toNat) % 100 ∧
    (t.p.c = true ↔ bcdValue s.a + bcdValue (s.read (eaAbs b1 b2)) + s.p.c.toNat > 99)) ∧
  (ValidBcd (s.read (eaIzy b1 s)) → ∃ t, exec (.adcIzy b1) s = .next t ∧ ValidBcd t.a ∧
    bcdValue t.a = (bcdValue s.a + bcdValue (s.read (eaIzy b1 s)) + s.p.c.toNat) % 100 ∧
    (t.p.c = true ↔ bcdValue s.a + bcdValue (s.read (eaIzy b1 s)) + s.p.c.toNat > 99)) ∧
  (ValidBcd (s.read (eaZpx b1 s)) → ∃ t, exec (.adcZpx b1) s = .next t ∧ ValidBcd t.a ∧
    bcdValue t.a = (bcdValue s.a + bcdValue (s.read (eaZpx b1 s)) + s.p.c.toNat) % 100 ∧
    (t.p.c = true ↔ bcdValue s.a + bcdValue (s.read (eaZpx b1 s)) + s.p.c.toNat > 99)) ∧
  (ValidBcd (s.read (eaAby b1 b2 s)) → ∃ t, exec (.adcAby b1 b2) s = .next t ∧ ValidBcd t.a ∧
    bcdValue t.a = (bcdValue s.a + bcdValue (s.read (eaAby b1 b2 s)) + s.p.c.toNat) % 100 ∧
    (t.p.c = true ↔ bcdValue s.a + bcdValue (s.read (eaAby b1 b2 s)) + s.p.c.toNat > 99)) ∧
  (ValidBcd (s.read (eaAbx b1 b2 s)) → ∃ t, exec (.adcAbx b1 b2) s = .next t ∧ ValidBcd t.a ∧
    bcdValue t.a = (bcdValue s.a + bcdValue (s.read (eaAbx b1 b2 s)) + s.p.c.toNat) % 100 ∧
    (t.p.c = true ↔ bcdValue s.a + bcdValue (s.read (eaAbx b1 b2 s)) + s.p.c.toNat > 99))

/-- SBC: all forms, 0xEB included, binary with D = 0 and decimal with D = 1. Every opcode of SBC, 0xEB included, in
every state, completes. The flags are in both modes those of the binary subtraction: C is 1 exactly when there
is no borrow, V exactly when the signed difference is outside -128..127, N and Z of the binary difference. With
D = 0 A is the binary difference; with D = 1 A is that of the rule's decimal algorithm. Nothing else changes.
0xEB does exactly what 0xE9 does. (R154, R155, R171, R246) -/
def Obligations.SbcSubtractsInTheModeDSelects : Prop :=
  ∀ (s : State) (b1 b2 : Byte),
  exec (.sbcImmEB b1) s = exec (.sbcImm b1) s ∧
  Completes (.sbcIzx b1) [0xE1, b1] s (fun t => Subtracts (s.read (eaIzx b1 s)) s t) ∧
  Completes (.sbcZp b1) [0xE5, b1] s (fun t => Subtracts (s.read (eaZp b1)) s t) ∧
  Completes (.sbcImm b1) [0xE9, b1] s (fun t => Subtracts b1 s t) ∧
  Completes (.sbcImmEB b1) [0xEB, b1] s (fun t => Subtracts b1 s t) ∧
  Completes (.sbcAbs b1 b2) [0xED, b1, b2] s (fun t => Subtracts (s.read (eaAbs b1 b2)) s t) ∧
  Completes (.sbcIzy b1) [0xF1, b1] s (fun t => Subtracts (s.read (eaIzy b1 s)) s t) ∧
  Completes (.sbcZpx b1) [0xF5, b1] s (fun t => Subtracts (s.read (eaZpx b1 s)) s t) ∧
  Completes (.sbcAby b1 b2) [0xF9, b1, b2] s (fun t => Subtracts (s.read (eaAby b1 b2 s)) s t) ∧
  Completes (.sbcAbx b1 b2) [0xFD, b1, b2] s (fun t => Subtracts (s.read (eaAbx b1 b2 s)) s t)

/-- SBC with D = 1 on valid decimal operands is subtraction modulo 100. For every opcode of SBC, with D = 1 and both
A and the operand valid two-digit decimal numbers: the new A is a valid decimal number, equal to A minus operand
minus (1 - C) modulo 100, and the new C is 1 exactly when there is no borrow. (41_arithmetic_logic.md R155) -/
def Obligations.DecimalSbcIsDecimalSubtraction : Prop :=
  ∀ (s : State) (b1 b2 : Byte), s.p.d = true → ValidBcd s.a →
  (ValidBcd (s.read (eaIzx b1 s)) → ∃ t, exec (.sbcIzx b1) s = .next t ∧ ValidBcd t.a ∧
    bcdValue t.a = (bcdValue s.a + 100 - bcdValue (s.read (eaIzx b1 s)) - (1 - s.p.c.toNat)) % 100 ∧
    (t.p.c = true ↔ bcdValue (s.read (eaIzx b1 s)) + (1 - s.p.c.toNat) ≤ bcdValue s.a)) ∧
  (ValidBcd (s.read (eaZp b1)) → ∃ t, exec (.sbcZp b1) s = .next t ∧ ValidBcd t.a ∧
    bcdValue t.a = (bcdValue s.a + 100 - bcdValue (s.read (eaZp b1)) - (1 - s.p.c.toNat)) % 100 ∧
    (t.p.c = true ↔ bcdValue (s.read (eaZp b1)) + (1 - s.p.c.toNat) ≤ bcdValue s.a)) ∧
  (ValidBcd b1 → ∃ t, exec (.sbcImm b1) s = .next t ∧ ValidBcd t.a ∧
    bcdValue t.a = (bcdValue s.a + 100 - bcdValue b1 - (1 - s.p.c.toNat)) % 100 ∧
    (t.p.c = true ↔ bcdValue b1 + (1 - s.p.c.toNat) ≤ bcdValue s.a)) ∧
  (ValidBcd b1 → ∃ t, exec (.sbcImmEB b1) s = .next t ∧ ValidBcd t.a ∧
    bcdValue t.a = (bcdValue s.a + 100 - bcdValue b1 - (1 - s.p.c.toNat)) % 100 ∧
    (t.p.c = true ↔ bcdValue b1 + (1 - s.p.c.toNat) ≤ bcdValue s.a)) ∧
  (ValidBcd (s.read (eaAbs b1 b2)) → ∃ t, exec (.sbcAbs b1 b2) s = .next t ∧ ValidBcd t.a ∧
    bcdValue t.a = (bcdValue s.a + 100 - bcdValue (s.read (eaAbs b1 b2)) - (1 - s.p.c.toNat)) % 100 ∧
    (t.p.c = true ↔ bcdValue (s.read (eaAbs b1 b2)) + (1 - s.p.c.toNat) ≤ bcdValue s.a)) ∧
  (ValidBcd (s.read (eaIzy b1 s)) → ∃ t, exec (.sbcIzy b1) s = .next t ∧ ValidBcd t.a ∧
    bcdValue t.a = (bcdValue s.a + 100 - bcdValue (s.read (eaIzy b1 s)) - (1 - s.p.c.toNat)) % 100 ∧
    (t.p.c = true ↔ bcdValue (s.read (eaIzy b1 s)) + (1 - s.p.c.toNat) ≤ bcdValue s.a)) ∧
  (ValidBcd (s.read (eaZpx b1 s)) → ∃ t, exec (.sbcZpx b1) s = .next t ∧ ValidBcd t.a ∧
    bcdValue t.a = (bcdValue s.a + 100 - bcdValue (s.read (eaZpx b1 s)) - (1 - s.p.c.toNat)) % 100 ∧
    (t.p.c = true ↔ bcdValue (s.read (eaZpx b1 s)) + (1 - s.p.c.toNat) ≤ bcdValue s.a)) ∧
  (ValidBcd (s.read (eaAby b1 b2 s)) → ∃ t, exec (.sbcAby b1 b2) s = .next t ∧ ValidBcd t.a ∧
    bcdValue t.a = (bcdValue s.a + 100 - bcdValue (s.read (eaAby b1 b2 s)) - (1 - s.p.c.toNat)) % 100 ∧
    (t.p.c = true ↔ bcdValue (s.read (eaAby b1 b2 s)) + (1 - s.p.c.toNat) ≤ bcdValue s.a)) ∧
  (ValidBcd (s.read (eaAbx b1 b2 s)) → ∃ t, exec (.sbcAbx b1 b2) s = .next t ∧ ValidBcd t.a ∧
    bcdValue t.a = (bcdValue s.a + 100 - bcdValue (s.read (eaAbx b1 b2 s)) - (1 - s.p.c.toNat)) % 100 ∧
    (t.p.c = true ↔ bcdValue (s.read (eaAbx b1 b2 s)) + (1 - s.p.c.toNat) ≤ bcdValue s.a))

/-- CMP, CPX, CPY: C is unsigned greater or equal, Z equality, N bit 7 of the difference. Every opcode of CMP, CPX
and CPY, in every state and whatever D is, completes: C is 1 exactly when the register is at least the operand
as unsigned numbers, Z exactly when they are equal, N is bit 7 of the 8-bit difference; V, D, I, the registers
and memory are unchanged. (R152, R160, R161, R162) -/
def Obligations.ComparesSetNZC : Prop :=
  ∀ (s : State) (b1 b2 : Byte),
  Completes (.cmpIzx b1) [0xC1, b1] s (fun t => Compares s.a (s.read (eaIzx b1 s)) t ∧ OnlyChanges [.n, .z, .c] s t) ∧
  Completes (.cmpZp b1) [0xC5, b1] s (fun t => Compares s.a (s.read (eaZp b1)) t ∧ OnlyChanges [.n, .z, .c] s t) ∧
  Completes (.cmpImm b1) [0xC9, b1] s (fun t => Compares s.a b1 t ∧ OnlyChanges [.n, .z, .c] s t) ∧
  Completes (.cmpAbs b1 b2) [0xCD, b1, b2] s (fun t => Compares s.a (s.read (eaAbs b1 b2)) t ∧ OnlyChanges [.n, .z, .c] s t) ∧
  Completes (.cmpIzy b1) [0xD1, b1] s (fun t => Compares s.a (s.read (eaIzy b1 s)) t ∧ OnlyChanges [.n, .z, .c] s t) ∧
  Completes (.cmpZpx b1) [0xD5, b1] s (fun t => Compares s.a (s.read (eaZpx b1 s)) t ∧ OnlyChanges [.n, .z, .c] s t) ∧
  Completes (.cmpAby b1 b2) [0xD9, b1, b2] s (fun t => Compares s.a (s.read (eaAby b1 b2 s)) t ∧ OnlyChanges [.n, .z, .c] s t) ∧
  Completes (.cmpAbx b1 b2) [0xDD, b1, b2] s (fun t => Compares s.a (s.read (eaAbx b1 b2 s)) t ∧ OnlyChanges [.n, .z, .c] s t) ∧
  Completes (.cpxImm b1) [0xE0, b1] s (fun t => Compares s.x b1 t ∧ OnlyChanges [.n, .z, .c] s t) ∧
  Completes (.cpxZp b1) [0xE4, b1] s (fun t => Compares s.x (s.read (eaZp b1)) t ∧ OnlyChanges [.n, .z, .c] s t) ∧
  Completes (.cpxAbs b1 b2) [0xEC, b1, b2] s (fun t => Compares s.x (s.read (eaAbs b1 b2)) t ∧ OnlyChanges [.n, .z, .c] s t) ∧
  Completes (.cpyImm b1) [0xC0, b1] s (fun t => Compares s.y b1 t ∧ OnlyChanges [.n, .z, .c] s t) ∧
  Completes (.cpyZp b1) [0xC4, b1] s (fun t => Compares s.y (s.read (eaZp b1)) t ∧ OnlyChanges [.n, .z, .c] s t) ∧
  Completes (.cpyAbs b1 b2) [0xCC, b1, b2] s (fun t => Compares s.y (s.read (eaAbs b1 b2)) t ∧ OnlyChanges [.n, .z, .c] s t)

/-- INC and DEC add or subtract one modulo 256 at the effective address. Every opcode of INC and DEC, in every
state, completes: the byte at the effective address becomes its old value plus or minus one modulo 256, every
other address reads as before, N and Z are those of the byte written, and C, V, D, I and all registers are
unchanged. (R163, R167) -/
def Obligations.IncDecOfMemory : Prop :=
  ∀ (s : State) (b1 b2 : Byte),
  Completes (.incZp b1) [0xE6, b1] s (fun t => RewritesMemory (eaZp b1) (((s.read (eaZp b1)).toNat + 1) % 256) s t ∧ FlagsNZ (t.read (eaZp b1)) t ∧ OnlyChanges [.mem, .n, .z] s t) ∧
  Completes (.incAbs b1 b2) [0xEE, b1, b2] s (fun t => RewritesMemory (eaAbs b1 b2) (((s.read (eaAbs b1 b2)).toNat + 1) % 256) s t ∧ FlagsNZ (t.read (eaAbs b1 b2)) t ∧ OnlyChanges [.mem, .n, .z] s t) ∧
  Completes (.incZpx b1) [0xF6, b1] s (fun t => RewritesMemory (eaZpx b1 s) (((s.read (eaZpx b1 s)).toNat + 1) % 256) s t ∧ FlagsNZ (t.read (eaZpx b1 s)) t ∧ OnlyChanges [.mem, .n, .z] s t) ∧
  Completes (.incAbx b1 b2) [0xFE, b1, b2] s (fun t => RewritesMemory (eaAbx b1 b2 s) (((s.read (eaAbx b1 b2 s)).toNat + 1) % 256) s t ∧ FlagsNZ (t.read (eaAbx b1 b2 s)) t ∧ OnlyChanges [.mem, .n, .z] s t) ∧
  Completes (.decZp b1) [0xC6, b1] s (fun t => RewritesMemory (eaZp b1) (((s.read (eaZp b1)).toNat + 255) % 256) s t ∧ FlagsNZ (t.read (eaZp b1)) t ∧ OnlyChanges [.mem, .n, .z] s t) ∧
  Completes (.decAbs b1 b2) [0xCE, b1, b2] s (fun t => RewritesMemory (eaAbs b1 b2) (((s.read (eaAbs b1 b2)).toNat + 255) % 256) s t ∧ FlagsNZ (t.read (eaAbs b1 b2)) t ∧ OnlyChanges [.mem, .n, .z] s t) ∧
  Completes (.decZpx b1) [0xD6, b1] s (fun t => RewritesMemory (eaZpx b1 s) (((s.read (eaZpx b1 s)).toNat + 255) % 256) s t ∧ FlagsNZ (t.read (eaZpx b1 s)) t ∧ OnlyChanges [.mem, .n, .z] s t) ∧
  Completes (.decAbx b1 b2) [0xDE, b1, b2] s (fun t => RewritesMemory (eaAbx b1 b2 s) (((s.read (eaAbx b1 b2 s)).toNat + 255) % 256) s t ∧ FlagsNZ (t.read (eaAbx b1 b2 s)) t ∧ OnlyChanges [.mem, .n, .z] s t)

/-- INX, INY, DEX, DEY add or subtract one modulo 256. Each, in every state, completes: the register becomes its old
value plus or minus one modulo 256, N and Z are those of the new value, and nothing else changes. (R164, R165,
R168, R169) -/
def Obligations.IncDecOfIndexRegisters : Prop :=
  ∀ s : State,
  Completes .inx [0xE8] s (fun t => t.x.toNat = (s.x.toNat + 1) % 256 ∧ FlagsNZ t.x t ∧ OnlyChanges [.x, .n, .z] s t) ∧
  Completes .iny [0xC8] s (fun t => t.y.toNat = (s.y.toNat + 1) % 256 ∧ FlagsNZ t.y t ∧ OnlyChanges [.y, .n, .z] s t) ∧
  Completes .dex [0xCA] s (fun t => t.x.toNat = (s.x.toNat + 255) % 256 ∧ FlagsNZ t.x t ∧ OnlyChanges [.x, .n, .z] s t) ∧
  Completes .dey [0x88] s (fun t => t.y.toNat = (s.y.toNat + 255) % 256 ∧ FlagsNZ t.y t ∧ OnlyChanges [.y, .n, .z] s t)

/-- ASL and LSR: all forms shift by one with zero shifted in. Every opcode of ASL and LSR, in every state,
completes: the operand (A, or the byte at the effective address) is doubled modulo 256, respectively halved, the
bit shifted out goes to C, N and Z are those of the result, and nothing else changes (A is untouched by the
memory forms). (R181, R182) -/
def Obligations.AslAndLsrShiftByOne : Prop :=
  ∀ (s : State) (b1 b2 : Byte),
  Completes (.aslZp b1) [0x06, b1] s (fun t => ShiftsMemory (eaZp b1) (aslValue (s.read (eaZp b1))) ((s.read (eaZp b1)).getLsbD 7) s t) ∧
  Completes .aslAcc [0x0A] s (fun t => ShiftsA (aslValue s.a) (s.a.getLsbD 7) s t) ∧
  Completes (.aslAbs b1 b2) [0x0E, b1, b2] s (fun t => ShiftsMemory (eaAbs b1 b2) (aslValue (s.read (eaAbs b1 b2))) ((s.read (eaAbs b1 b2)).getLsbD 7) s t) ∧
  Completes (.aslZpx b1) [0x16, b1] s (fun t => ShiftsMemory (eaZpx b1 s) (aslValue (s.read (eaZpx b1 s))) ((s.read (eaZpx b1 s)).getLsbD 7) s t) ∧
  Completes (.aslAbx b1 b2) [0x1E, b1, b2] s (fun t => ShiftsMemory (eaAbx b1 b2 s) (aslValue (s.read (eaAbx b1 b2 s))) ((s.read (eaAbx b1 b2 s)).getLsbD 7) s t) ∧
  Completes (.lsrZp b1) [0x46, b1] s (fun t => ShiftsMemory (eaZp b1) (lsrValue (s.read (eaZp b1))) ((s.read (eaZp b1)).getLsbD 0) s t) ∧
  Completes .lsrAcc [0x4A] s (fun t => ShiftsA (lsrValue s.a) (s.a.getLsbD 0) s t) ∧
  Completes (.lsrAbs b1 b2) [0x4E, b1, b2] s (fun t => ShiftsMemory (eaAbs b1 b2) (lsrValue (s.read (eaAbs b1 b2))) ((s.read (eaAbs b1 b2)).getLsbD 0) s t) ∧
  Completes (.lsrZpx b1) [0x56, b1] s (fun t => ShiftsMemory (eaZpx b1 s) (lsrValue (s.read (eaZpx b1 s))) ((s.read (eaZpx b1 s)).getLsbD 0) s t) ∧
  Completes (.lsrAbx b1 b2) [0x5E, b1, b2] s (fun t => ShiftsMemory (eaAbx b1 b2 s) (lsrValue (s.read (eaAbx b1 b2 s))) ((s.read (eaAbx b1 b2 s)).getLsbD 0) s t)

/-- ROL and ROR: all forms rotate by one through the carry. Every opcode of ROL and ROR, in every state, completes:
the operand is shifted by one, the old C enters the vacated bit, the bit shifted out becomes C, N and Z are
those of the result, and nothing else changes. (R183, R184) -/
def Obligations.RolAndRorRotateThroughCarry : Prop :=
  ∀ (s : State) (b1 b2 : Byte),
  Completes (.rolZp b1) [0x26, b1] s (fun t => ShiftsMemory (eaZp b1) (rolValue (s.read (eaZp b1)) s.p.c) ((s.read (eaZp b1)).getLsbD 7) s t) ∧
  Completes .rolAcc [0x2A] s (fun t => ShiftsA (rolValue s.a s.p.c) (s.a.getLsbD 7) s t) ∧
  Completes (.rolAbs b1 b2) [0x2E, b1, b2] s (fun t => ShiftsMemory (eaAbs b1 b2) (rolValue (s.read (eaAbs b1 b2)) s.p.c) ((s.read (eaAbs b1 b2)).getLsbD 7) s t) ∧
  Completes (.rolZpx b1) [0x36, b1] s (fun t => ShiftsMemory (eaZpx b1 s) (rolValue (s.read (eaZpx b1 s)) s.p.c) ((s.read (eaZpx b1 s)).getLsbD 7) s t) ∧
  Completes (.rolAbx b1 b2) [0x3E, b1, b2] s (fun t => ShiftsMemory (eaAbx b1 b2 s) (rolValue (s.read (eaAbx b1 b2 s)) s.p.c) ((s.read (eaAbx b1 b2 s)).getLsbD 7) s t) ∧
  Completes (.rorZp b1) [0x66, b1] s (fun t => ShiftsMemory (eaZp b1) (rorValue (s.read (eaZp b1)) s.p.c) ((s.read (eaZp b1)).getLsbD 0) s t) ∧
  Completes .rorAcc [0x6A] s (fun t => ShiftsA (rorValue s.a s.p.c) (s.a.getLsbD 0) s t) ∧
  Completes (.rorAbs b1 b2) [0x6E, b1, b2] s (fun t => ShiftsMemory (eaAbs b1 b2) (rorValue (s.read (eaAbs b1 b2)) s.p.c) ((s.read (eaAbs b1 b2)).getLsbD 0) s t) ∧
  Completes (.rorZpx b1) [0x76, b1] s (fun t => ShiftsMemory (eaZpx b1 s) (rorValue (s.read (eaZpx b1 s)) s.p.c) ((s.read (eaZpx b1 s)).getLsbD 0) s t) ∧
  Completes (.rorAbx b1 b2) [0x7E, b1, b2] s (fun t => ShiftsMemory (eaAbx b1 b2 s) (rorValue (s.read (eaAbx b1 b2 s)) s.p.c) ((s.read (eaAbx b1 b2 s)).getLsbD 0) s t)

/-- The eight branches go to NextPC plus the signed displacement when their condition holds. Each branch, in every
state (pc being NextPC), completes: if its flag has the value the rule names, pc becomes NextPC plus the signed
displacement modulo 65536, else pc stays NextPC; nothing else changes. (R190, R191, R192, R193, R194, R195,
R196, R198, R199) -/
def Obligations.ConditionalBranches : Prop :=
  ∀ (s : State) (b1 : Byte),
  Completes (.bcc b1) [0x90, b1] s (fun t => Branches (!s.p.c) b1 s t) ∧
  Completes (.bcs b1) [0xB0, b1] s (fun t => Branches s.p.c b1 s t) ∧
  Completes (.beq b1) [0xF0, b1] s (fun t => Branches s.p.z b1 s t) ∧
  Completes (.bmi b1) [0x30, b1] s (fun t => Branches s.p.n b1 s t) ∧
  Completes (.bne b1) [0xD0, b1] s (fun t => Branches (!s.p.z) b1 s t) ∧
  Completes (.bpl b1) [0x10, b1] s (fun t => Branches (!s.p.n) b1 s t) ∧
  Completes (.bvc b1) [0x50, b1] s (fun t => Branches (!s.p.v) b1 s t) ∧
  Completes (.bvs b1) [0x70, b1] s (fun t => Branches s.p.v b1 s t)

/-- JMP: the operand itself, or the word in memory with its high byte from the same page. Both opcodes of JMP, in
every state, complete: 0x4C makes pc b2 :: b1; 0x6C makes pc the word whose low byte is at b2 :: b1 and whose
high byte is at the next address in the same page. Nothing else changes. (R200) -/
def Obligations.JmpGoesToItsTarget : Prop :=
  ∀ (s : State) (b1 b2 : Byte),
  Completes (.jmpAdr b1 b2) [0x4C, b1, b2] s (fun t => t.pc.toNat = b2.toNat * 256 + b1.toNat ∧ OnlyChanges [.pc] s t) ∧
  Completes (.jmpInd b1 b2) [0x6C, b1, b2] s (fun t => t.pc.toNat =
    (s.read (BitVec.ofNat 16 (b2.toNat * 256 + (b1.toNat + 1) % 256))).toNat * 256 +
      (s.read (BitVec.ofNat 16 (b2.toNat * 256 + b1.toNat))).toNat ∧ OnlyChanges [.pc] s t)

/-- JSR stacks NextPC - 1, high byte first, and jumps. In every state (pc being NextPC) JSR completes: the high byte
of NextPC - 1 is stored at 0x0100 + S, the low byte at the next lower address of page 1, S becomes two lower
modulo 256, pc becomes b2 :: b1, and nothing else changes. (R201) -/
def Obligations.JsrStacksReturnAddressMinusOne : Prop :=
  ∀ (s : State) (b1 b2 : Byte),
  Completes (.jsr b1 b2) [0x20, b1, b2] s (fun t => Pushed16 (s.pc - 1) s t ∧ t.sp = s.sp - 2 ∧
    t.pc.toNat = b2.toNat * 256 + b1.toNat ∧ OnlyChanges [.sp, .pc, .mem] s t)

/-- RTS pulls the address, low byte first, and continues one past it. In every state RTS completes: pc becomes one
more, modulo 65536, than the word whose low byte is at the first pulled address and high byte at the second, S
becomes two higher modulo 256, and nothing else changes. (R203) -/
def Obligations.RtsReturnsToPulledAddressPlusOne : Prop :=
  ∀ s : State,
  Completes .rts [0x60] s (fun t => t.pc.toNat =
    ((s.read (stackAddr (s.sp + 2))).toNat * 256 + (s.read (stackAddr (s.sp + 1))).toNat + 1) % 65536 ∧
    t.sp = s.sp + 2 ∧ OnlyChanges [.sp, .pc] s t)

/-- RTS after JSR continues after the JSR with S restored. For every state and target, if JSR completes, then RTS
executed with any A, X, Y, flags and pc but the same S and memory makes pc the NextPC of the JSR and restores S.
(43_control_flow.md R201, R203, 20_memory.md R51, R52) -/
def Obligations.JsrThenRtsReturns : Prop :=
  ∀ (s t : State) (b1 b2 a x y : Byte) (pc : Addr) (p : Status), exec (.jsr b1 b2) s = .next t →
    ∃ u, exec .rts { t with a := a, x := x, y := y, pc := pc, p := p } = .next u ∧ u.pc = s.pc ∧ u.sp = s.sp

/-- BRK stacks NextPC and the status with B set, sets I and goes to the vector 0xFFFE. In every state (pc being
NextPC, two past the BRK) and for every padding byte BRK completes: NextPC high, NextPC low and the status byte
with bits 5 and 4 set are stored at 0x0100 + S and the two next lower addresses of page 1 (wrapping); bit 2 of
the pushed byte is 1 if BRK_PUSH_I is set and the old I if it is old; S is three lower modulo 256; I is 1; pc is
the word at 0xFFFE; every other flag, register and byte is unchanged. (R197) -/
def Obligations.BrkEntersTheSharedVector : Prop :=
  ∀ (s : State) (b1 : Byte),
  Completes (.brk b1) [0x00, b1] s (fun t => ∃ status : Byte,
    status.toNat = statusValue true
      { s.p with i := (match s.params.brkPushI with | .set => true | .old => s.p.i) } ∧
    EntersTrap s.pc status 0xFFFE [] s t)

/-- RTI pulls the six flags, then the address, and continues exactly there. In every state RTI completes: the six
flags are bits 7, 6, 3, 2, 1, 0 of the first pulled byte, pc is the word of the next two (low byte first) with
no increment, S becomes three higher modulo 256, and nothing else changes. (R202) -/
def Obligations.RtiRestoresFlagsAndAddress : Prop :=
  ∀ s : State,
  Completes .rti [0x40] s (fun t => FlagsFrom (s.read (stackAddr (s.sp + 1))) t ∧
    t.pc.toNat = (s.read (stackAddr (s.sp + 3))).toNat * 256 + (s.read (stackAddr (s.sp + 2))).toNat ∧
    t.sp = s.sp + 3 ∧ OnlyChanges [.sp, .pc, .n, .v, .d, .i, .z, .c] s t)

/-- RTI after BRK resumes at the BRK's address + 2 with the flags restored. For every state, if BRK completes, then
RTI executed with any A, X, Y, flags and pc but the same S and memory makes pc the NextPC of the BRK, restores
S, N, V, D, Z and C, and gives I the value BRK_PUSH_I says: 1, or the I of before the BRK. (60_exceptions.md
R273, R275, 43_control_flow.md R197, R202) -/
def Obligations.BrkThenRtiResumes : Prop :=
  ∀ (s t : State) (b1 a x y : Byte) (pc : Addr) (p : Status), exec (.brk b1) s = .next t →
    ∃ u, exec .rti { t with a := a, x := x, y := y, pc := pc, p := p } = .next u ∧ u.pc = s.pc ∧ u.sp = s.sp ∧
      u.p = { s.p with i := (match s.params.brkPushI with | .set => true | .old => s.p.i) }

/-- CLC, CLD, CLI, CLV, SEC, SED, SEI write their flag and nothing else. Each flag instruction, in every state,
completes: its flag takes its value, and every other flag, register and byte of memory is unchanged. (R210,
R211, R212, R213, R214, R215, R216) -/
def Obligations.FlagInstructionsWriteOneFlag : Prop :=
  ∀ s : State,
  Completes .clc [0x18] s (fun t => t.p.c = false ∧ OnlyChanges [.c] s t) ∧
  Completes .cld [0xD8] s (fun t => t.p.d = false ∧ OnlyChanges [.d] s t) ∧
  Completes .cli [0x58] s (fun t => t.p.i = false ∧ OnlyChanges [.i] s t) ∧
  Completes .clv [0xB8] s (fun t => t.p.v = false ∧ OnlyChanges [.v] s t) ∧
  Completes .sec [0x38] s (fun t => t.p.c = true ∧ OnlyChanges [.c] s t) ∧
  Completes .sed [0xF8] s (fun t => t.p.d = true ∧ OnlyChanges [.d] s t) ∧
  Completes .sei [0x78] s (fun t => t.p.i = true ∧ OnlyChanges [.i] s t)

/-- Every NOP leaves the state as it is, but for the pc the step has moved. All 25 NOP opcodes, and the two-byte
NOPs of 0x80, 0x82, 0xC2, 0xE2 under their parameter's second value, complete in every state with that very
state (pc being NextPC, past the operand bytes). (R217) -/
def Obligations.NopChangesNothing : Prop :=
  ∀ (s : State) (b1 b2 : Byte),
  (encode (.nop04 b1) = [0x04, b1] ∧ exec (.nop04 b1) s = .next s) ∧
  (encode (.nop0C b1 b2) = [0x0C, b1, b2] ∧ exec (.nop0C b1 b2) s = .next s) ∧
  (encode (.nop14 b1) = [0x14, b1] ∧ exec (.nop14 b1) s = .next s) ∧
  (encode .nop1A = [0x1A] ∧ exec .nop1A s = .next s) ∧
  (encode (.nop1C b1 b2) = [0x1C, b1, b2] ∧ exec (.nop1C b1 b2) s = .next s) ∧
  (encode (.nop34 b1) = [0x34, b1] ∧ exec (.nop34 b1) s = .next s) ∧
  (encode .nop3A = [0x3A] ∧ exec .nop3A s = .next s) ∧
  (encode (.nop3C b1 b2) = [0x3C, b1, b2] ∧ exec (.nop3C b1 b2) s = .next s) ∧
  (encode (.nop44 b1) = [0x44, b1] ∧ exec (.nop44 b1) s = .next s) ∧
  (encode (.nop54 b1) = [0x54, b1] ∧ exec (.nop54 b1) s = .next s) ∧
  (encode .nop5A = [0x5A] ∧ exec .nop5A s = .next s) ∧
  (encode (.nop5C b1 b2) = [0x5C, b1, b2] ∧ exec (.nop5C b1 b2) s = .next s) ∧
  (encode (.nop64 b1) = [0x64, b1] ∧ exec (.nop64 b1) s = .next s) ∧
  (encode (.nop74 b1) = [0x74, b1] ∧ exec (.nop74 b1) s = .next s) ∧
  (encode .nop7A = [0x7A] ∧ exec .nop7A s = .next s) ∧
  (encode (.nop7C b1 b2) = [0x7C, b1, b2] ∧ exec (.nop7C b1 b2) s = .next s) ∧
  (encode .nop80 = [0x80] ∧ exec .nop80 s = .next s) ∧
  (encode (.nop89 b1) = [0x89, b1] ∧ exec (.nop89 b1) s = .next s) ∧
  (encode (.nopD4 b1) = [0xD4, b1] ∧ exec (.nopD4 b1) s = .next s) ∧
  (encode .nopDA = [0xDA] ∧ exec .nopDA s = .next s) ∧
  (encode (.nopDC b1 b2) = [0xDC, b1, b2] ∧ exec (.nopDC b1 b2) s = .next s) ∧
  (encode .nop = [0xEA] ∧ exec .nop s = .next s) ∧
  (encode (.nopF4 b1) = [0xF4, b1] ∧ exec (.nopF4 b1) s = .next s) ∧
  (encode .nopFA = [0xFA] ∧ exec .nopFA s = .next s) ∧
  (encode (.nopFC b1 b2) = [0xFC, b1, b2] ∧ exec (.nopFC b1 b2) s = .next s) ∧
  (encode (.nop80Imm b1) = [0x80, b1] ∧ exec (.nop80Imm b1) s = .next s) ∧
  (encode (.nop82Imm b1) = [0x82, b1] ∧ exec (.nop82Imm b1) s = .next s) ∧
  (encode (.nopC2Imm b1) = [0xC2, b1] ∧ exec (.nopC2Imm b1) s = .next s) ∧
  (encode (.nopE2Imm b1) = [0xE2, b1] ∧ exec (.nopE2Imm b1) s = .next s)

/-- Every HLT halts with pc at its own opcode; the halted state then stays. All 15 HLT opcodes complete in every
state (pc being NextPC): halted becomes true, pc becomes NextPC - 1, the address of the HLT itself, and nothing
else changes; and a step of a halted state at a boundary where RESET is not asserted, whatever IRQ and NMI are,
leaves the sampled state as it is. (R218) -/
def Obligations.HltStopsTheProcessor : Prop :=
  (∀ s : State,
  Completes .hlt02 [0x02] s (fun t => t.halted = true ∧ t.pc = s.pc - 1 ∧ OnlyChanges [.halted, .pc] s t) ∧
  Completes .hlt12 [0x12] s (fun t => t.halted = true ∧ t.pc = s.pc - 1 ∧ OnlyChanges [.halted, .pc] s t) ∧
  Completes .hlt22 [0x22] s (fun t => t.halted = true ∧ t.pc = s.pc - 1 ∧ OnlyChanges [.halted, .pc] s t) ∧
  Completes .hlt32 [0x32] s (fun t => t.halted = true ∧ t.pc = s.pc - 1 ∧ OnlyChanges [.halted, .pc] s t) ∧
  Completes .hlt42 [0x42] s (fun t => t.halted = true ∧ t.pc = s.pc - 1 ∧ OnlyChanges [.halted, .pc] s t) ∧
  Completes .hlt52 [0x52] s (fun t => t.halted = true ∧ t.pc = s.pc - 1 ∧ OnlyChanges [.halted, .pc] s t) ∧
  Completes .hlt62 [0x62] s (fun t => t.halted = true ∧ t.pc = s.pc - 1 ∧ OnlyChanges [.halted, .pc] s t) ∧
  Completes .hlt72 [0x72] s (fun t => t.halted = true ∧ t.pc = s.pc - 1 ∧ OnlyChanges [.halted, .pc] s t) ∧
  Completes .hlt82 [0x82] s (fun t => t.halted = true ∧ t.pc = s.pc - 1 ∧ OnlyChanges [.halted, .pc] s t) ∧
  Completes .hlt92 [0x92] s (fun t => t.halted = true ∧ t.pc = s.pc - 1 ∧ OnlyChanges [.halted, .pc] s t) ∧
  Completes .hltB2 [0xB2] s (fun t => t.halted = true ∧ t.pc = s.pc - 1 ∧ OnlyChanges [.halted, .pc] s t) ∧
  Completes .hltC2 [0xC2] s (fun t => t.halted = true ∧ t.pc = s.pc - 1 ∧ OnlyChanges [.halted, .pc] s t) ∧
  Completes .hltD2 [0xD2] s (fun t => t.halted = true ∧ t.pc = s.pc - 1 ∧ OnlyChanges [.halted, .pc] s t) ∧
  Completes .hltE2 [0xE2] s (fun t => t.halted = true ∧ t.pc = s.pc - 1 ∧ OnlyChanges [.halted, .pc] s t) ∧
  Completes .hltF2 [0xF2] s (fun t => t.halted = true ∧ t.pc = s.pc - 1 ∧ OnlyChanges [.halted, .pc] s t)) ∧
  ∀ s : State, s.halted = true → s.sampleInputs.resetLine = false → step s = .next s.sampleInputs

/-- ASO, RLA, LSE shift the byte in memory and combine it with A. Every opcode of ASO, RLA and LSE, in every state,
completes: the byte at the effective address is shifted left, rotated left through the old carry, or shifted
right; C is the bit shifted out; A becomes A or, and, exclusive or the byte just written, N and Z are those of
the new A; every other address, flag and register is unchanged. (R221, R224, R225) -/
def Obligations.AsoRlaLseShiftMemoryAndCombineWithA : Prop :=
  ∀ (s : State) (b1 b2 : Byte),
  Completes (.asoIzx b1) [0x03, b1] s (fun t => RewritesMemory (eaIzx b1 s) (aslValue (s.read (eaIzx b1 s))) s t ∧ t.p.c = (s.read (eaIzx b1 s)).getLsbD 7 ∧
    t.a = s.a ||| t.read (eaIzx b1 s) ∧ FlagsNZ t.a t ∧ OnlyChanges [.a, .mem, .n, .z, .c] s t) ∧
  Completes (.asoZp b1) [0x07, b1] s (fun t => RewritesMemory (eaZp b1) (aslValue (s.read (eaZp b1))) s t ∧ t.p.c = (s.read (eaZp b1)).getLsbD 7 ∧
    t.a = s.a ||| t.read (eaZp b1) ∧ FlagsNZ t.a t ∧ OnlyChanges [.a, .mem, .n, .z, .c] s t) ∧
  Completes (.asoAbs b1 b2) [0x0F, b1, b2] s (fun t => RewritesMemory (eaAbs b1 b2) (aslValue (s.read (eaAbs b1 b2))) s t ∧ t.p.c = (s.read (eaAbs b1 b2)).getLsbD 7 ∧
    t.a = s.a ||| t.read (eaAbs b1 b2) ∧ FlagsNZ t.a t ∧ OnlyChanges [.a, .mem, .n, .z, .c] s t) ∧
  Completes (.asoIzy b1) [0x13, b1] s (fun t => RewritesMemory (eaIzy b1 s) (aslValue (s.read (eaIzy b1 s))) s t ∧ t.p.c = (s.read (eaIzy b1 s)).getLsbD 7 ∧
    t.a = s.a ||| t.read (eaIzy b1 s) ∧ FlagsNZ t.a t ∧ OnlyChanges [.a, .mem, .n, .z, .c] s t) ∧
  Completes (.asoZpx b1) [0x17, b1] s (fun t => RewritesMemory (eaZpx b1 s) (aslValue (s.read (eaZpx b1 s))) s t ∧ t.p.c = (s.read (eaZpx b1 s)).getLsbD 7 ∧
    t.a = s.a ||| t.read (eaZpx b1 s) ∧ FlagsNZ t.a t ∧ OnlyChanges [.a, .mem, .n, .z, .c] s t) ∧
  Completes (.asoAby b1 b2) [0x1B, b1, b2] s (fun t => RewritesMemory (eaAby b1 b2 s) (aslValue (s.read (eaAby b1 b2 s))) s t ∧ t.p.c = (s.read (eaAby b1 b2 s)).getLsbD 7 ∧
    t.a = s.a ||| t.read (eaAby b1 b2 s) ∧ FlagsNZ t.a t ∧ OnlyChanges [.a, .mem, .n, .z, .c] s t) ∧
  Completes (.asoAbx b1 b2) [0x1F, b1, b2] s (fun t => RewritesMemory (eaAbx b1 b2 s) (aslValue (s.read (eaAbx b1 b2 s))) s t ∧ t.p.c = (s.read (eaAbx b1 b2 s)).getLsbD 7 ∧
    t.a = s.a ||| t.read (eaAbx b1 b2 s) ∧ FlagsNZ t.a t ∧ OnlyChanges [.a, .mem, .n, .z, .c] s t) ∧
  Completes (.rlaIzx b1) [0x23, b1] s (fun t => RewritesMemory (eaIzx b1 s) (rolValue (s.read (eaIzx b1 s)) s.p.c) s t ∧ t.p.c = (s.read (eaIzx b1 s)).getLsbD 7 ∧
    t.a = s.a &&& t.read (eaIzx b1 s) ∧ FlagsNZ t.a t ∧ OnlyChanges [.a, .mem, .n, .z, .c] s t) ∧
  Completes (.rlaZp b1) [0x27, b1] s (fun t => RewritesMemory (eaZp b1) (rolValue (s.read (eaZp b1)) s.p.c) s t ∧ t.p.c = (s.read (eaZp b1)).getLsbD 7 ∧
    t.a = s.a &&& t.read (eaZp b1) ∧ FlagsNZ t.a t ∧ OnlyChanges [.a, .mem, .n, .z, .c] s t) ∧
  Completes (.rlaAbs b1 b2) [0x2F, b1, b2] s (fun t => RewritesMemory (eaAbs b1 b2) (rolValue (s.read (eaAbs b1 b2)) s.p.c) s t ∧ t.p.c = (s.read (eaAbs b1 b2)).getLsbD 7 ∧
    t.a = s.a &&& t.read (eaAbs b1 b2) ∧ FlagsNZ t.a t ∧ OnlyChanges [.a, .mem, .n, .z, .c] s t) ∧
  Completes (.rlaIzy b1) [0x33, b1] s (fun t => RewritesMemory (eaIzy b1 s) (rolValue (s.read (eaIzy b1 s)) s.p.c) s t ∧ t.p.c = (s.read (eaIzy b1 s)).getLsbD 7 ∧
    t.a = s.a &&& t.read (eaIzy b1 s) ∧ FlagsNZ t.a t ∧ OnlyChanges [.a, .mem, .n, .z, .c] s t) ∧
  Completes (.rlaZpx b1) [0x37, b1] s (fun t => RewritesMemory (eaZpx b1 s) (rolValue (s.read (eaZpx b1 s)) s.p.c) s t ∧ t.p.c = (s.read (eaZpx b1 s)).getLsbD 7 ∧
    t.a = s.a &&& t.read (eaZpx b1 s) ∧ FlagsNZ t.a t ∧ OnlyChanges [.a, .mem, .n, .z, .c] s t) ∧
  Completes (.rlaAby b1 b2) [0x3B, b1, b2] s (fun t => RewritesMemory (eaAby b1 b2 s) (rolValue (s.read (eaAby b1 b2 s)) s.p.c) s t ∧ t.p.c = (s.read (eaAby b1 b2 s)).getLsbD 7 ∧
    t.a = s.a &&& t.read (eaAby b1 b2 s) ∧ FlagsNZ t.a t ∧ OnlyChanges [.a, .mem, .n, .z, .c] s t) ∧
  Completes (.rlaAbx b1 b2) [0x3F, b1, b2] s (fun t => RewritesMemory (eaAbx b1 b2 s) (rolValue (s.read (eaAbx b1 b2 s)) s.p.c) s t ∧ t.p.c = (s.read (eaAbx b1 b2 s)).getLsbD 7 ∧
    t.a = s.a &&& t.read (eaAbx b1 b2 s) ∧ FlagsNZ t.a t ∧ OnlyChanges [.a, .mem, .n, .z, .c] s t) ∧
  Completes (.lseIzx b1) [0x43, b1] s (fun t => RewritesMemory (eaIzx b1 s) (lsrValue (s.read (eaIzx b1 s))) s t ∧ t.p.c = (s.read (eaIzx b1 s)).getLsbD 0 ∧
    t.a = s.a ^^^ t.read (eaIzx b1 s) ∧ FlagsNZ t.a t ∧ OnlyChanges [.a, .mem, .n, .z, .c] s t) ∧
  Completes (.lseZp b1) [0x47, b1] s (fun t => RewritesMemory (eaZp b1) (lsrValue (s.read (eaZp b1))) s t ∧ t.p.c = (s.read (eaZp b1)).getLsbD 0 ∧
    t.a = s.a ^^^ t.read (eaZp b1) ∧ FlagsNZ t.a t ∧ OnlyChanges [.a, .mem, .n, .z, .c] s t) ∧
  Completes (.lseAbs b1 b2) [0x4F, b1, b2] s (fun t => RewritesMemory (eaAbs b1 b2) (lsrValue (s.read (eaAbs b1 b2))) s t ∧ t.p.c = (s.read (eaAbs b1 b2)).getLsbD 0 ∧
    t.a = s.a ^^^ t.read (eaAbs b1 b2) ∧ FlagsNZ t.a t ∧ OnlyChanges [.a, .mem, .n, .z, .c] s t) ∧
  Completes (.lseIzy b1) [0x53, b1] s (fun t => RewritesMemory (eaIzy b1 s) (lsrValue (s.read (eaIzy b1 s))) s t ∧ t.p.c = (s.read (eaIzy b1 s)).getLsbD 0 ∧
    t.a = s.a ^^^ t.read (eaIzy b1 s) ∧ FlagsNZ t.a t ∧ OnlyChanges [.a, .mem, .n, .z, .c] s t) ∧
  Completes (.lseZpx b1) [0x57, b1] s (fun t => RewritesMemory (eaZpx b1 s) (lsrValue (s.read (eaZpx b1 s))) s t ∧ t.p.c = (s.read (eaZpx b1 s)).getLsbD 0 ∧
    t.a = s.a ^^^ t.read (eaZpx b1 s) ∧ FlagsNZ t.a t ∧ OnlyChanges [.a, .mem, .n, .z, .c] s t) ∧
  Completes (.lseAby b1 b2) [0x5B, b1, b2] s (fun t => RewritesMemory (eaAby b1 b2 s) (lsrValue (s.read (eaAby b1 b2 s))) s t ∧ t.p.c = (s.read (eaAby b1 b2 s)).getLsbD 0 ∧
    t.a = s.a ^^^ t.read (eaAby b1 b2 s) ∧ FlagsNZ t.a t ∧ OnlyChanges [.a, .mem, .n, .z, .c] s t) ∧
  Completes (.lseAbx b1 b2) [0x5F, b1, b2] s (fun t => RewritesMemory (eaAbx b1 b2 s) (lsrValue (s.read (eaAbx b1 b2 s))) s t ∧ t.p.c = (s.read (eaAbx b1 b2 s)).getLsbD 0 ∧
    t.a = s.a ^^^ t.read (eaAbx b1 b2 s) ∧ FlagsNZ t.a t ∧ OnlyChanges [.a, .mem, .n, .z, .c] s t)

/-- RRA rotates the byte in memory right and adds it to A with the carry the rotate made. Every opcode of RRA, in
every state, completes: the byte at the effective address is rotated right through the old carry; A and N, V, Z,
C are those of adding the byte just written to A, in the mode D selects, with the bit shifted out as carry in;
every other address, flag and register is unchanged. (R226) -/
def Obligations.RraRotatesMemoryAndAddsToA : Prop :=
  ∀ (s : State) (b1 b2 : Byte),
  Completes (.rraIzx b1) [0x63, b1] s (fun t => RewritesMemory (eaIzx b1 s) (rorValue (s.read (eaIzx b1 s)) s.p.c) s t ∧
    (if s.p.d then DecimalAdd s.a (t.read (eaIzx b1 s)) ((s.read (eaIzx b1 s)).getLsbD 0) t else BinaryAdd s.a (t.read (eaIzx b1 s)) ((s.read (eaIzx b1 s)).getLsbD 0) t) ∧
    OnlyChanges [.a, .mem, .n, .v, .z, .c] s t) ∧
  Completes (.rraZp b1) [0x67, b1] s (fun t => RewritesMemory (eaZp b1) (rorValue (s.read (eaZp b1)) s.p.c) s t ∧
    (if s.p.d then DecimalAdd s.a (t.read (eaZp b1)) ((s.read (eaZp b1)).getLsbD 0) t else BinaryAdd s.a (t.read (eaZp b1)) ((s.read (eaZp b1)).getLsbD 0) t) ∧
    OnlyChanges [.a, .mem, .n, .v, .z, .c] s t) ∧
  Completes (.rraAbs b1 b2) [0x6F, b1, b2] s (fun t => RewritesMemory (eaAbs b1 b2) (rorValue (s.read (eaAbs b1 b2)) s.p.c) s t ∧
    (if s.p.d then DecimalAdd s.a (t.read (eaAbs b1 b2)) ((s.read (eaAbs b1 b2)).getLsbD 0) t else BinaryAdd s.a (t.read (eaAbs b1 b2)) ((s.read (eaAbs b1 b2)).getLsbD 0) t) ∧
    OnlyChanges [.a, .mem, .n, .v, .z, .c] s t) ∧
  Completes (.rraIzy b1) [0x73, b1] s (fun t => RewritesMemory (eaIzy b1 s) (rorValue (s.read (eaIzy b1 s)) s.p.c) s t ∧
    (if s.p.d then DecimalAdd s.a (t.read (eaIzy b1 s)) ((s.read (eaIzy b1 s)).getLsbD 0) t else BinaryAdd s.a (t.read (eaIzy b1 s)) ((s.read (eaIzy b1 s)).getLsbD 0) t) ∧
    OnlyChanges [.a, .mem, .n, .v, .z, .c] s t) ∧
  Completes (.rraZpx b1) [0x77, b1] s (fun t => RewritesMemory (eaZpx b1 s) (rorValue (s.read (eaZpx b1 s)) s.p.c) s t ∧
    (if s.p.d then DecimalAdd s.a (t.read (eaZpx b1 s)) ((s.read (eaZpx b1 s)).getLsbD 0) t else BinaryAdd s.a (t.read (eaZpx b1 s)) ((s.read (eaZpx b1 s)).getLsbD 0) t) ∧
    OnlyChanges [.a, .mem, .n, .v, .z, .c] s t) ∧
  Completes (.rraAby b1 b2) [0x7B, b1, b2] s (fun t => RewritesMemory (eaAby b1 b2 s) (rorValue (s.read (eaAby b1 b2 s)) s.p.c) s t ∧
    (if s.p.d then DecimalAdd s.a (t.read (eaAby b1 b2 s)) ((s.read (eaAby b1 b2 s)).getLsbD 0) t else BinaryAdd s.a (t.read (eaAby b1 b2 s)) ((s.read (eaAby b1 b2 s)).getLsbD 0) t) ∧
    OnlyChanges [.a, .mem, .n, .v, .z, .c] s t) ∧
  Completes (.rraAbx b1 b2) [0x7F, b1, b2] s (fun t => RewritesMemory (eaAbx b1 b2 s) (rorValue (s.read (eaAbx b1 b2 s)) s.p.c) s t ∧
    (if s.p.d then DecimalAdd s.a (t.read (eaAbx b1 b2 s)) ((s.read (eaAbx b1 b2 s)).getLsbD 0) t else BinaryAdd s.a (t.read (eaAbx b1 b2 s)) ((s.read (eaAbx b1 b2 s)).getLsbD 0) t) ∧
    OnlyChanges [.a, .mem, .n, .v, .z, .c] s t)

/-- DCM decrements the byte in memory and compares A with it. Every opcode of DCM, in every state and whatever D is,
completes: the byte at the effective address becomes one less modulo 256, N, Z, C are those of comparing A with
the byte just written, and A, V, D, I, every other address and register are unchanged. (R222) -/
def Obligations.DcmDecrementsMemoryAndCompares : Prop :=
  ∀ (s : State) (b1 b2 : Byte),
  Completes (.dcmIzx b1) [0xC3, b1] s (fun t => RewritesMemory (eaIzx b1 s) (((s.read (eaIzx b1 s)).toNat + 255) % 256) s t ∧
    Compares s.a (t.read (eaIzx b1 s)) t ∧ OnlyChanges [.mem, .n, .z, .c] s t) ∧
  Completes (.dcmZp b1) [0xC7, b1] s (fun t => RewritesMemory (eaZp b1) (((s.read (eaZp b1)).toNat + 255) % 256) s t ∧
    Compares s.a (t.read (eaZp b1)) t ∧ OnlyChanges [.mem, .n, .z, .c] s t) ∧
  Completes (.dcmAbs b1 b2) [0xCF, b1, b2] s (fun t => RewritesMemory (eaAbs b1 b2) (((s.read (eaAbs b1 b2)).toNat + 255) % 256) s t ∧
    Compares s.a (t.read (eaAbs b1 b2)) t ∧ OnlyChanges [.mem, .n, .z, .c] s t) ∧
  Completes (.dcmIzy b1) [0xD3, b1] s (fun t => RewritesMemory (eaIzy b1 s) (((s.read (eaIzy b1 s)).toNat + 255) % 256) s t ∧
    Compares s.a (t.read (eaIzy b1 s)) t ∧ OnlyChanges [.mem, .n, .z, .c] s t) ∧
  Completes (.dcmZpx b1) [0xD7, b1] s (fun t => RewritesMemory (eaZpx b1 s) (((s.read (eaZpx b1 s)).toNat + 255) % 256) s t ∧
    Compares s.a (t.read (eaZpx b1 s)) t ∧ OnlyChanges [.mem, .n, .z, .c] s t) ∧
  Completes (.dcmAby b1 b2) [0xDB, b1, b2] s (fun t => RewritesMemory (eaAby b1 b2 s) (((s.read (eaAby b1 b2 s)).toNat + 255) % 256) s t ∧
    Compares s.a (t.read (eaAby b1 b2 s)) t ∧ OnlyChanges [.mem, .n, .z, .c] s t) ∧
  Completes (.dcmAbx b1 b2) [0xDF, b1, b2] s (fun t => RewritesMemory (eaAbx b1 b2 s) (((s.read (eaAbx b1 b2 s)).toNat + 255) % 256) s t ∧
    Compares s.a (t.read (eaAbx b1 b2 s)) t ∧ OnlyChanges [.mem, .n, .z, .c] s t)

/-- INS increments the byte in memory and subtracts it from A. Every opcode of INS, in every state, completes: the
byte at the effective address becomes one more modulo 256 (also with D = 1), A and N, V, Z, C are those of
subtracting the byte just written from A in the mode D selects, and every other address, flag and register is
unchanged. (R223) -/
def Obligations.InsIncrementsMemoryAndSubtracts : Prop :=
  ∀ (s : State) (b1 b2 : Byte),
  Completes (.insIzx b1) [0xE3, b1] s (fun t => RewritesMemory (eaIzx b1 s) (((s.read (eaIzx b1 s)).toNat + 1) % 256) s t ∧
    (if s.p.d then DecimalSubtract s.a (t.read (eaIzx b1 s)) s.p.c t else BinarySubtract s.a (t.read (eaIzx b1 s)) s.p.c t) ∧
    OnlyChanges [.a, .mem, .n, .v, .z, .c] s t) ∧
  Completes (.insZp b1) [0xE7, b1] s (fun t => RewritesMemory (eaZp b1) (((s.read (eaZp b1)).toNat + 1) % 256) s t ∧
    (if s.p.d then DecimalSubtract s.a (t.read (eaZp b1)) s.p.c t else BinarySubtract s.a (t.read (eaZp b1)) s.p.c t) ∧
    OnlyChanges [.a, .mem, .n, .v, .z, .c] s t) ∧
  Completes (.insAbs b1 b2) [0xEF, b1, b2] s (fun t => RewritesMemory (eaAbs b1 b2) (((s.read (eaAbs b1 b2)).toNat + 1) % 256) s t ∧
    (if s.p.d then DecimalSubtract s.a (t.read (eaAbs b1 b2)) s.p.c t else BinarySubtract s.a (t.read (eaAbs b1 b2)) s.p.c t) ∧
    OnlyChanges [.a, .mem, .n, .v, .z, .c] s t) ∧
  Completes (.insIzy b1) [0xF3, b1] s (fun t => RewritesMemory (eaIzy b1 s) (((s.read (eaIzy b1 s)).toNat + 1) % 256) s t ∧
    (if s.p.d then DecimalSubtract s.a (t.read (eaIzy b1 s)) s.p.c t else BinarySubtract s.a (t.read (eaIzy b1 s)) s.p.c t) ∧
    OnlyChanges [.a, .mem, .n, .v, .z, .c] s t) ∧
  Completes (.insZpx b1) [0xF7, b1] s (fun t => RewritesMemory (eaZpx b1 s) (((s.read (eaZpx b1 s)).toNat + 1) % 256) s t ∧
    (if s.p.d then DecimalSubtract s.a (t.read (eaZpx b1 s)) s.p.c t else BinarySubtract s.a (t.read (eaZpx b1 s)) s.p.c t) ∧
    OnlyChanges [.a, .mem, .n, .v, .z, .c] s t) ∧
  Completes (.insAby b1 b2) [0xFB, b1, b2] s (fun t => RewritesMemory (eaAby b1 b2 s) (((s.read (eaAby b1 b2 s)).toNat + 1) % 256) s t ∧
    (if s.p.d then DecimalSubtract s.a (t.read (eaAby b1 b2 s)) s.p.c t else BinarySubtract s.a (t.read (eaAby b1 b2 s)) s.p.c t) ∧
    OnlyChanges [.a, .mem, .n, .v, .z, .c] s t) ∧
  Completes (.insAbx b1 b2) [0xFF, b1, b2] s (fun t => RewritesMemory (eaAbx b1 b2 s) (((s.read (eaAbx b1 b2 s)).toNat + 1) % 256) s t ∧
    (if s.p.d then DecimalSubtract s.a (t.read (eaAbx b1 b2 s)) s.p.c t else BinarySubtract s.a (t.read (eaAbx b1 b2 s)) s.p.c t) ∧
    OnlyChanges [.a, .mem, .n, .v, .z, .c] s t)

/-- LAX loads A and X; LAS loads A, X and S with operand and S. Every opcode of LAX and LAS, in every state,
completes: LAX makes A and X the operand; LAS makes A, X and S the bitwise and of the operand and the old S; N
and Z are those of the value, and nothing else changes (addresses are computed with the old X and Y). (R230,
R231) -/
def Obligations.LaxAndLasLoadSeveralRegisters : Prop :=
  ∀ (s : State) (b1 b2 : Byte),
  Completes (.laxIzx b1) [0xA3, b1] s (fun t => t.a = (s.read (eaIzx b1 s)) ∧ t.x = (s.read (eaIzx b1 s)) ∧ FlagsNZ (s.read (eaIzx b1 s)) t ∧ OnlyChanges [.a, .x, .n, .z] s t) ∧
  Completes (.laxZp b1) [0xA7, b1] s (fun t => t.a = (s.read (eaZp b1)) ∧ t.x = (s.read (eaZp b1)) ∧ FlagsNZ (s.read (eaZp b1)) t ∧ OnlyChanges [.a, .x, .n, .z] s t) ∧
  Completes (.laxAbs b1 b2) [0xAF, b1, b2] s (fun t => t.a = (s.read (eaAbs b1 b2)) ∧ t.x = (s.read (eaAbs b1 b2)) ∧ FlagsNZ (s.read (eaAbs b1 b2)) t ∧ OnlyChanges [.a, .x, .n, .z] s t) ∧
  Completes (.laxIzy b1) [0xB3, b1] s (fun t => t.a = (s.read (eaIzy b1 s)) ∧ t.x = (s.read (eaIzy b1 s)) ∧ FlagsNZ (s.read (eaIzy b1 s)) t ∧ OnlyChanges [.a, .x, .n, .z] s t) ∧
  Completes (.laxZpy b1) [0xB7, b1] s (fun t => t.a = (s.read (eaZpy b1 s)) ∧ t.x = (s.read (eaZpy b1 s)) ∧ FlagsNZ (s.read (eaZpy b1 s)) t ∧ OnlyChanges [.a, .x, .n, .z] s t) ∧
  Completes (.laxAby b1 b2) [0xBF, b1, b2] s (fun t => t.a = (s.read (eaAby b1 b2 s)) ∧ t.x = (s.read (eaAby b1 b2 s)) ∧ FlagsNZ (s.read (eaAby b1 b2 s)) t ∧ OnlyChanges [.a, .x, .n, .z] s t) ∧
  Completes (.las b1 b2) [0xBB, b1, b2] s (fun t => t.a = (s.read (eaAby b1 b2 s)) &&& s.sp ∧ t.x = t.a ∧ t.sp = t.a ∧ FlagsNZ t.a t ∧ OnlyChanges [.a, .x, .sp, .n, .z] s t)

/-- SAX stores the bitwise and of A and X and changes no flag. Every opcode of SAX, in every state, completes: the
byte at the effective address becomes the bitwise and of A and X, every other address reads as before, and no
register or flag changes. (R232) -/
def Obligations.SaxStoresAAndX : Prop :=
  ∀ (s : State) (b1 b2 : Byte),
  Completes (.saxIzx b1) [0x83, b1] s (fun t => StoresOnly (eaIzx b1 s) (s.a &&& s.x) s t ∧ OnlyChanges [.mem] s t) ∧
  Completes (.saxZp b1) [0x87, b1] s (fun t => StoresOnly (eaZp b1) (s.a &&& s.x) s t ∧ OnlyChanges [.mem] s t) ∧
  Completes (.saxAbs b1 b2) [0x8F, b1, b2] s (fun t => StoresOnly (eaAbs b1 b2) (s.a &&& s.x) s t ∧ OnlyChanges [.mem] s t) ∧
  Completes (.saxZpy b1) [0x97, b1] s (fun t => StoresOnly (eaZpy b1 s) (s.a &&& s.x) s t ∧ OnlyChanges [.mem] s t)

/-- SHA, SHX, SHY store the register term and the base's high byte plus one. Every opcode of SHA, SHX and SHY, in
every state, completes: the value stored is (A and X), X or Y, and-ed with the high byte of the base address
plus one modulo 256; without a page crossing it is stored at the effective address, with one it also replaces
the high byte of the address; only where SH_UNSTABLE is true may the and-term be dropped, as a free value
decides. Every other address, every flag and register is unchanged. (R233, R234, R236, R237) -/
def Obligations.ShaShxShyStoreWithTheHighByte : Prop :=
  ∀ (s : State) (b1 b2 : Byte),
  Completes (.shaIzy b1) [0x93, b1] s (fun t => ShStores (s.a &&& s.x) (baseIzy b1 s) (eaIzy b1 s) [] s t) ∧
  Completes (.shaAby b1 b2) [0x9F, b1, b2] s (fun t => ShStores (s.a &&& s.x) (eaAbs b1 b2) (eaAby b1 b2 s) [] s t) ∧
  Completes (.shx b1 b2) [0x9E, b1, b2] s (fun t => ShStores (s.x) (eaAbs b1 b2) (eaAby b1 b2 s) [] s t) ∧
  Completes (.shy b1 b2) [0x9C, b1, b2] s (fun t => ShStores (s.y) (eaAbs b1 b2) (eaAbx b1 b2 s) [] s t)

/-- SHS makes S the bitwise and of A and X and stores as SHA does. SHS, in every state, completes: S becomes A and
X, the byte stored and where it is stored follow the rule of SHA for the same operand (the and-term dropped only
where SH_UNSTABLE is true, as a free value decides), and every flag, other register and other address is
unchanged. Where SH_UNSTABLE is false, so that nothing is drawn, memory is after it exactly what SHA leaves from
the same state. (R235) -/
def Obligations.ShsSetsSAndStores : Prop :=
  ∀ (s : State) (b1 b2 : Byte),
  Completes (.shs b1 b2) [0x9B, b1, b2] s (fun t => t.sp = s.a &&& s.x ∧ ShStores (s.a &&& s.x) (eaAbs b1 b2) (eaAby b1 b2 s) [.sp] s t ∧
    (s.params.shUnstable = false → ∃ u, exec (.shaAby b1 b2) s = .next u ∧ ∀ b : Addr, t.read b = u.read b))

/-- ALR is AND then LSR; ANC is AND with C a copy of N. ALR and both opcodes of ANC, in every state, complete: ALR
halves (A and operand), C its bit 0, N = 0 and Z of the result; ANC makes A (A and operand), N and Z of it, C
its bit 7; nothing else changes. (R240, R241) -/
def Obligations.AlrAndAnc : Prop :=
  ∀ (s : State) (b1 : Byte),
  Completes (.alr b1) [0x4B, b1] s (fun t => t.a.toNat = lsrValue (s.a &&& b1) ∧ t.p.c = (s.a &&& b1).getLsbD 0 ∧ t.p.n = false ∧
    (t.p.z = true ↔ t.a.toNat = 0) ∧ OnlyChanges [.a, .n, .z, .c] s t) ∧
  Completes (.anc0B b1) [0x0B, b1] s (fun t => t.a = s.a &&& b1 ∧ FlagsNZ t.a t ∧ t.p.c = t.p.n ∧ OnlyChanges [.a, .n, .z, .c] s t) ∧
  Completes (.anc2B b1) [0x2B, b1] s (fun t => t.a = s.a &&& b1 ∧ FlagsNZ t.a t ∧ t.p.c = t.p.n ∧ OnlyChanges [.a, .n, .z, .c] s t)

/-- ANE under a mask drawn from 0x11, 0x10, 0x01, 0x00. In every state ANE completes: for some mask k among 0x11,
0x10, 0x01, 0x00 the new A is ((A and k and X) or (0xEE and X)) and operand; so bits 7, 6, 5, 3, 2, 1 of it are
those of X and operand, bits 4 and 0 are 0 where A and X and operand has 0, and if (A and X and operand and
0x11) is 0 it is X and operand and 0xEE. N and Z are those of the new A and nothing else changes (the draw is
counted). (R242) -/
def Obligations.AneHoldsForEveryMask : Prop :=
  ∀ (s : State) (b1 : Byte),
  Completes (.ane b1) [0x8B, b1] s (fun t => (∃ k ∈ ([0x11, 0x10, 0x01, 0x00] : List Byte), t.a = ((s.a &&& k &&& s.x) ||| (0xEE &&& s.x)) &&& b1) ∧
    t.a &&& 0xEE = (s.x &&& b1) &&& 0xEE ∧ (t.a &&& 0x11) &&& ~~~(s.a &&& s.x &&& b1) = 0 ∧
    (s.a &&& s.x &&& b1 &&& 0x11 = 0 → t.a = s.x &&& b1 &&& 0xEE) ∧
    FlagsNZ t.a t ∧ OnlyChanges [.a, .n, .z, .draws] s t)

/-- ARR: AND, then a rotate with its own flags, binary and decimal. In every state ARR completes. With t = A and
operand and r = t / 2 + 128 * C: if D = 0, A = r, N and Z of r, C = bit 6 of r, V = bit 6 xor bit 5 of r. If D =
1, N = old C, Z of r, V = bit 6 of t xor bit 6 of r, the low digit of r is fixed up by 6 when low digit of t
plus bit 0 of t exceeds 5, C is 1 exactly when high digit of t plus its bit 0 exceeds 5, and then 0x60 is added
modulo 256. Nothing else changes. (R243) -/
def Obligations.ArrInBothModes : Prop :=
  ∀ (s : State) (b1 : Byte),
  Completes (.arr b1) [0x6B, b1] s (fun t => ∃ w r r1 : Nat, w = (s.a &&& b1).toNat ∧ r = w / 2 + s.p.c.toNat * 128 ∧
    r1 = (if w % 16 + w % 2 > 5 then r / 16 * 16 + (r + 6) % 16 else r) ∧
    (if s.p.d then
      t.p.n = s.p.c ∧ (t.p.z = true ↔ r = 0) ∧ t.p.v = (w.testBit 6 ^^ r.testBit 6) ∧
        (t.p.c = true ↔ w / 16 + w / 16 % 2 > 5) ∧
        t.a.toNat = (if w / 16 + w / 16 % 2 > 5 then (r1 + 0x60) % 256 else r1)
    else
      t.a.toNat = r ∧ FlagsNZ t.a t ∧ t.p.c = r.testBit 6 ∧ t.p.v = (r.testBit 6 ^^ r.testBit 5)) ∧
    OnlyChanges [.a, .n, .v, .z, .c] s t)

/-- LXA under any constant: A and X become (A or LXA_CONST) and operand. In every state LXA completes: A becomes (A
or LXA_CONST) and operand, for the LXA_CONST the parameters hold, X becomes the same, N and Z are those of it,
and nothing else changes; so whatever the constant, bits where the operand is 0 are 0, bits where A and operand
is 1 are 1, and with A = 0xFF the result is the operand, with operand 0 it is 0. (R244) -/
def Obligations.LxaForEveryConstant : Prop :=
  ∀ (s : State) (b1 : Byte),
  Completes (.lxa b1) [0xAB, b1] s (fun t => t.a = (s.a ||| s.params.lxaConst) &&& b1 ∧ t.x = t.a ∧ FlagsNZ t.a t ∧
    t.a &&& ~~~b1 = 0 ∧ (s.a &&& b1) &&& ~~~t.a = 0 ∧ (s.a = 0xFF → t.a = b1) ∧ (b1 = 0 → t.a = 0) ∧
    OnlyChanges [.a, .x, .n, .z] s t)

/-- SBX makes X (A and X) minus the operand, with the flags of a compare. In every state, whatever C and D are, SBX
completes: X becomes (A and X) minus the operand modulo 256, C is 1 exactly when there is no borrow, N and Z are
those of the new X; A, V, D, I and everything else are unchanged. (R245) -/
def Obligations.SbxSubtractsFromAAndX : Prop :=
  ∀ (s : State) (b1 : Byte),
  Completes (.sbx b1) [0xCB, b1] s (fun t => t.x.toNat = ((s.a &&& s.x).toNat + 256 - b1.toNat) % 256 ∧
    (t.p.c = true ↔ b1.toNat ≤ (s.a &&& s.x).toNat) ∧ FlagsNZ t.x t ∧ OnlyChanges [.x, .n, .z, .c] s t)

/-- An asserted IRQ with I = 0 enters through 0xFFFE with B = 0. At a boundary where (inputs sampled) RESET is not
asserted, the machine is not halted, no NMI is pending, IRQ is asserted and I = 0, the step is the IRQ entry: pc
and the status with bit 4 = 0 and bit 2 = 0 are stacked, S is three lower, I is 1, pc is the word at 0xFFFE, and
nothing else of the sampled state changes (the line included). (R267) -/
def Obligations.IrqEntryWhenUnmasked : Prop :=
  ∀ s : State, s.sampleInputs.resetLine = false → s.sampleInputs.halted = false →
    s.sampleInputs.nmiPending = false → s.sampleInputs.irqLine = true → s.sampleInputs.p.i = false →
    ∃ t status, step s = .next t ∧ status = BitVec.ofNat 8 (statusValue false s.p) ∧ status.getLsbD 2 = false ∧
      EntersTrap s.pc status 0xFFFE [] s.sampleInputs t

/-- A pending NMI enters through 0xFFFA whatever I is. At a boundary where (inputs sampled) RESET is not asserted,
the machine is not halted and an NMI is pending, the step is the NMI entry, whatever I and IRQ are: pc and the
status with bit 4 = 0 are stacked, S is three lower, I is 1, pc is the word at 0xFFFA, nmi_pending is false, and
nothing else of the sampled state changes. (R268) -/
def Obligations.NmiEntryWhateverIIs : Prop :=
  ∀ s : State, s.sampleInputs.resetLine = false → s.sampleInputs.halted = false →
    s.sampleInputs.nmiPending = true →
    ∃ t, step s = .next t ∧ t.nmiPending = false ∧
      EntersTrap s.pc (BitVec.ofNat 8 (statusValue false s.p)) 0xFFFA [.nmiPending] s.sampleInputs t

/-- One input sample is taken at each boundary; an NMI edge is latched. If a sample is left, sampling takes it: the
IRQ and RESET levels become the sample's, an NMI edge sets nmi_pending and without one it stays; registers,
flags, memory and the rest are unchanged. With no sample left the state is unchanged: that the levels then stay
is the model's choice (log 13). (60_exceptions.md R263, R265, log 13) -/
def Obligations.InputsAreSampledOncePerBoundary : Prop :=
  ∀ (s : State) (q : PinSample) (rest : List PinSample),
    (s.inputs = q :: rest →
      s.sampleInputs.irqLine = q.irq ∧ s.sampleInputs.resetLine = q.reset ∧
        s.sampleInputs.nmiPending = (s.nmiPending || q.nmi) ∧ s.sampleInputs.inputs = rest ∧
        OnlyChanges [.irqLine, .resetLine, .nmiPending, .inputs] s s.sampleInputs) ∧
    (s.inputs = [] → s.sampleInputs = s)

/-- With I = 1 an asserted IRQ changes nothing of what the step does. At every boundary where I = 1, two steps whose
samples differ in the IRQ level only reach states that differ in the level of the line only: the request is
neither taken nor lost, whether the step is an instruction, an NMI entry (which an IRQ loses to), a reset or
that of a halted machine. At a boundary with no sample left the same holds of two states that differ in the
level only; that the level then stays is the model's choice (log 13). That the two steps also get the same free
values, where they draw (ANE, an unstable SH store, a reset event), is the model's choice: both draw at the same
count (log 8, log 10), while the spec draws afresh. That the step is the instruction's own is
StepRunsTheDecodedInstruction. (60_exceptions.md R264, R266, R270, 30_encoding.md R108, log 8, log 10, log 13) -/
def Obligations.MaskedIrqLetsTheInstructionRun : Prop :=
  ∀ s : State, s.p.i = true →
    (∀ (q : PinSample) (rest : List PinSample),
      ∃ t, step { s with inputs := { q with irq := false } :: rest } = .next t ∧ t.irqLine = false ∧
        step { s with inputs := { q with irq := true } :: rest } = .next { t with irqLine := true }) ∧
    (s.inputs = [] →
      ∃ t, step { s with irqLine := false } = .next t ∧ t.irqLine = false ∧
        step { s with irqLine := true } = .next { t with irqLine := true })

/-- Once halted with no reset to come, no number of steps changes anything a program made. From every state that is
halted, with RESET not asserted and no sample to come asserting it, any number of steps reaches a state that is
still so and differs at most in the input levels, the samples left and nmi_pending: A, X, Y, S, pc, the flags
and every byte of memory are as they were. That the levels stay once the samples are used up is the model's
choice (log 13). (70_reset_and_hazards.md R301, 60_exceptions.md R276, 44_flag_nop_hlt.md R218, log 13) -/
def Obligations.EndedRunStaysEnded : Prop :=
  ∀ (n : Nat) (s : State), s.ended = true →
    ∃ t, Host.Core.run Sys2Proof.core n s = .next t ∧ t.ended = true ∧
      OnlyChanges [.nmiPending, .irqLine, .resetLine, .inputs] s t

/-- A step runs the instruction its bytes decode to, with pc moved past it. At a boundary where (inputs sampled)
RESET is not asserted, the machine is not halted, no NMI is pending and no IRQ is let through, if the bytes at
pc decode to an instruction, the step is exec of that instruction at the sampled state with pc moved past the
instruction's bytes, modulo 65536. (30_encoding.md R108, 00_scope.md R11) -/
def Obligations.StepRunsTheDecodedInstruction : Prop :=
  ∀ (s : State) (i : Instr) (rest : List Byte), LetsInstructionRun s.sampleInputs →
    decode s.params [s.read s.pc, s.read (s.pc + 1), s.read (s.pc + 2)] = .instr i rest →
    step s = exec i (s.sampleInputs.setPc (s.pc + BitVec.ofNat 16 (encode i).length))

/-- Decoding an encoded well-formed instruction gives it back. For all parameters, every well-formed instruction
with every operand byte, and any bytes after it: decoding its encoding followed by those bytes gives exactly the
instruction and those bytes. (30_encoding.md R80, R81, R99, R102, R103) -/
def Obligations.DecodeInvertsEncode : Prop :=
  ∀ (prm : Params) (i : Instr) (rest : List Byte), i.wellFormed prm = true →
    decode prm (encode i ++ rest) = .instr i rest

/-- No encoding is illegal: any three bytes begin with a well-formed instruction. For all parameters and any three
bytes the decoder answers an instruction, which is well-formed, executes to a next state in every state, and
whose encoding followed by the bytes left over is the three bytes. So each of the 256 opcode values has an
instruction and no two instructions share their bytes. (R100) -/
def Obligations.EveryOpcodeDecodes : Prop :=
  ∀ (prm : Params) (op b1 b2 : Byte), ∃ i rest, decode prm [op, b1, b2] = .instr i rest ∧
    i.wellFormed prm = true ∧ encode i ++ rest = [op, b1, b2] ∧ ∀ s : State, ∃ t, exec i s = .next t

/-- Some words written out from the opcode map decode to their instructions. The words A9 12 (LDA immediate), 8D 34
12 (STA absolute), 6C FF 30 (JMP indirect), D0 FC (BNE), 00 EA (BRK), 97 80 (SAX zpy), 1B 34 12 (ASO aby), 6B 55
(ARR), 2A (ROL A), 02 (HLT) decode, under the nominal parameters, to those instructions with those operand
bytes. (30_encoding.md R99, opcode_table.json) -/
def Obligations.WrittenOutWordsDecode : Prop :=
  decode Params.nominal [0xA9, 0x12] = .instr (.ldaImm 0x12) [] ∧
  decode Params.nominal [0x8D, 0x34, 0x12] = .instr (.staAbs 0x34 0x12) [] ∧
  decode Params.nominal [0x6C, 0xFF, 0x30] = .instr (.jmpInd 0xFF 0x30) [] ∧
  decode Params.nominal [0xD0, 0xFC] = .instr (.bne 0xFC) [] ∧
  decode Params.nominal [0x00, 0xEA] = .instr (.brk 0xEA) [] ∧
  decode Params.nominal [0x97, 0x80] = .instr (.saxZpy 0x80) [] ∧
  decode Params.nominal [0x1B, 0x34, 0x12] = .instr (.asoAby 0x34 0x12) [] ∧
  decode Params.nominal [0x6B, 0x55] = .instr (.arr 0x55) [] ∧
  decode Params.nominal [0x2A] = .instr .rolAcc [] ∧
  decode Params.nominal [0x02] = .instr .hlt02 []

/-- Every step keeps memory in canonical form and the parameters as they are. From every state whose memory is in
canonical form, if a step answers a next state, that state's memory is in canonical form; and from every state
whatever, a step leaves the parameters of the run unchanged. (20_memory.md R50, R57, 00_scope.md R5) -/
def Obligations.StepKeepsMemoryCanonicalAndParameters : Prop :=
  ∀ s t : State, step s = .next t → (s.wf = true → t.wf = true) ∧ t.params = s.params

/-- Every step of every state answers a next state. In every state, reachable or not, with any memory, any inputs
and any parameters, the step answers a next state: no opcode, operand, address, interrupt or reset raises a
fault or is refused. (60_exceptions.md R261, 30_encoding.md R100) -/
def Obligations.NoStepFaultsOrRefuses : Prop :=
  ∀ s : State, ∃ t, step s = .next t

/-- A, X, Y, S, each of the six flags, memory and halted are written only by the instructions the spec names. For
every instruction and state, if exec answers a next state in which A, X, Y, S, some byte of memory, N, V, D, I,
Z, C or halted differs, then the opcode is one of those 10_state.md R38 (registers, memory), R26 (N), R27 (V),
R30 (D), R31 (I), R32 (Z), R33 (C) and R36 (halted) name for it; for N and Z these are the instructions whose
rules say SetNZ, and BIT, ADC, ARR, PLP, RTI. (10_state.md R38, R26, R27, R30, R31, R32, R33, R36, 00_scope.md
R8) -/
def Obligations.OnlyTheNamedInstructionsWrite : Prop :=
  ∀ (i : Instr) (s t : State), exec i s = .next t →
    (t.a ≠ s.a → opcodeOf i ∈ opcodesWritingA) ∧ (t.x ≠ s.x → opcodeOf i ∈ opcodesWritingX) ∧
    (t.y ≠ s.y → opcodeOf i ∈ opcodesWritingY) ∧ (t.sp ≠ s.sp → opcodeOf i ∈ opcodesWritingS) ∧
    ((∃ b : Addr, t.read b ≠ s.read b) → opcodeOf i ∈ opcodesWritingMemory) ∧
    (t.p.n ≠ s.p.n → opcodeOf i ∈ opcodesWritingNZ) ∧ (t.p.z ≠ s.p.z → opcodeOf i ∈ opcodesWritingNZ) ∧
    (t.p.v ≠ s.p.v → opcodeOf i ∈ opcodesWritingV) ∧ (t.p.d ≠ s.p.d → opcodeOf i ∈ opcodesWritingD) ∧
    (t.p.i ≠ s.p.i → opcodeOf i ∈ opcodesWritingI) ∧ (t.p.c ≠ s.p.c → opcodeOf i ∈ opcodesWritingC) ∧
    (t.halted ≠ s.halted → opcodeOf i ∈ opcodesHalting)
end

