-- ==== Sys2Proof/Laws/Flags.lean ====
section
/-! SUPPORT. The flag computations: which flags each keeps, and what the others become, stated over numbers where the
definition works on bits. -/

namespace Sys2Proof.Machine

/-! ### N and Z -/

@[simp] theorem setNZ_n (v : Byte) (p : Status) : (setNZ v p).n = v.getLsbD 7 := rfl
@[simp] theorem setNZ_v (v : Byte) (p : Status) : (setNZ v p).v = p.v := rfl
@[simp] theorem setNZ_d (v : Byte) (p : Status) : (setNZ v p).d = p.d := rfl
@[simp] theorem setNZ_i (v : Byte) (p : Status) : (setNZ v p).i = p.i := rfl
@[simp] theorem setNZ_c (v : Byte) (p : Status) : (setNZ v p).c = p.c := rfl
@[simp] theorem setNZ_z (v : Byte) (p : Status) : (setNZ v p).z = decide (v.toNat = 0) := by
  have h : (v = 0) ↔ v.toNat = 0 := by rw [← BitVec.toNat_inj]; rfl
  simp only [setNZ, ← h]; rfl

/-- Bit 7 of a byte is that of its number. -/
theorem getLsbD_seven (v : Byte) : v.getLsbD 7 = decide (128 ≤ v.toNat) := by
  have e : v.getLsbD 7 = v.msb := rfl
  rw [e, BitVec.msb_eq_decide]

/-- Bit 7 of a number, as its remainder modulo 256 shows it. -/
theorem testBit_seven (t : Nat) : t.testBit 7 = decide (128 ≤ t % 256) := by
  rw [Nat.testBit_eq_decide_div_mod_eq]
  congr 1
  apply propext
  constructor <;> intro h <;> omega

/-! ### Which flags the computations keep -/

@[simp] theorem adcBinary_d (a m : Byte) (p : Status) : (adcBinary a m p).2.d = p.d := rfl
@[simp] theorem adcBinary_i (a m : Byte) (p : Status) : (adcBinary a m p).2.i = p.i := rfl
@[simp] theorem adcDecimal_d (a m : Byte) (p : Status) : (adcDecimal a m p).2.d = p.d := rfl
@[simp] theorem adcDecimal_i (a m : Byte) (p : Status) : (adcDecimal a m p).2.i = p.i := rfl
@[simp] theorem sbcBinary_d (a m : Byte) (p : Status) : (sbcBinary a m p).2.d = p.d := rfl
@[simp] theorem sbcBinary_i (a m : Byte) (p : Status) : (sbcBinary a m p).2.i = p.i := rfl
@[simp] theorem sbcDecimal_flags (a m : Byte) (p : Status) : (sbcDecimal a m p).2 = (sbcBinary a m p).2 := rfl
@[simp] theorem compareFlags_v (r m : Byte) (p : Status) : (compareFlags r m p).v = p.v := rfl
@[simp] theorem compareFlags_d (r m : Byte) (p : Status) : (compareFlags r m p).d = p.d := rfl
@[simp] theorem compareFlags_i (r m : Byte) (p : Status) : (compareFlags r m p).i = p.i := rfl
@[simp] theorem bitFlags_d (a m : Byte) (p : Status) : (bitFlags a m p).d = p.d := rfl
@[simp] theorem bitFlags_i (a m : Byte) (p : Status) : (bitFlags a m p).i = p.i := rfl
@[simp] theorem bitFlags_c (a m : Byte) (p : Status) : (bitFlags a m p).c = p.c := rfl

@[simp] theorem adcByMode_d (a m : Byte) (p : Status) : (adcByMode a m p).2.d = p.d := by
  unfold adcByMode; split <;> rfl

@[simp] theorem adcByMode_i (a m : Byte) (p : Status) : (adcByMode a m p).2.i = p.i := by
  unfold adcByMode; split <;> rfl

@[simp] theorem sbcByMode_d (a m : Byte) (p : Status) : (sbcByMode a m p).2.d = p.d := by
  unfold sbcByMode; split <;> rfl

@[simp] theorem sbcByMode_i (a m : Byte) (p : Status) : (sbcByMode a m p).2.i = p.i := by
  unfold sbcByMode; split <;> rfl

/-- The flags of a subtraction are the binary ones in both modes (41_arithmetic_logic.md R155). -/
theorem sbcByMode_flags (a m : Byte) (p : Status) : (sbcByMode a m p).2 = (sbcBinary a m p).2 := by
  unfold sbcByMode; split <;> rfl

@[simp] theorem arrByMode_d (a m : Byte) (p : Status) : (arrByMode a m p).2.d = p.d := by
  unfold arrByMode; split <;> rfl

@[simp] theorem arrByMode_i (a m : Byte) (p : Status) : (arrByMode a m p).2.i = p.i := by
  unfold arrByMode; split <;> rfl

/-! ### Increment, decrement and the shift cores -/

@[simp] theorem incCore_fst (v : Byte) (p : Status) : (incCore v p).1 = v + 1 := rfl
@[simp] theorem incCore_snd (v : Byte) (p : Status) : (incCore v p).2 = setNZ (v + 1) p := rfl
@[simp] theorem decCore_fst (v : Byte) (p : Status) : (decCore v p).1 = v - 1 := rfl
@[simp] theorem decCore_snd (v : Byte) (p : Status) : (decCore v p).2 = setNZ (v - 1) p := rfl
@[simp] theorem aslCore_snd (v : Byte) (p : Status) :
    (aslCore v p).2 = setNZ (aslCore v p).1 { p with c := v.getLsbD 7 } := rfl
@[simp] theorem lsrCore_snd (v : Byte) (p : Status) :
    (lsrCore v p).2 = setNZ (lsrCore v p).1 { p with c := v.getLsbD 0 } := rfl
@[simp] theorem rolCore_snd (v : Byte) (p : Status) :
    (rolCore v p).2 = setNZ (rolCore v p).1 { p with c := v.getLsbD 7 } := rfl
@[simp] theorem rorCore_snd (v : Byte) (p : Status) :
    (rorCore v p).2 = setNZ (rorCore v p).1 { p with c := v.getLsbD 0 } := rfl
@[simp] theorem sbxCore_fst (a x m : Byte) (p : Status) : (sbxCore a x m p).1 = (a &&& x) - m := rfl
@[simp] theorem sbxCore_snd (a x m : Byte) (p : Status) : (sbxCore a x m p).2 = compareFlags (a &&& x) m p := rfl

/-- The shift cores as numbers (42_shift_rotate.md R180). -/
theorem aslCore_toNat (v : Byte) (p : Status) : (aslCore v p).1.toNat = v.toNat * 2 % 256 := by
  simp [aslCore, BitVec.toNat_shiftLeft, Nat.shiftLeft_eq]

theorem lsrCore_toNat (v : Byte) (p : Status) : (lsrCore v p).1.toNat = v.toNat / 2 := by
  simp [lsrCore, BitVec.toNat_ushiftRight, Nat.shiftRight_eq_div_pow]

/-- The two halves of a rotate do not overlap. -/
theorem rol_toNat (v : Byte) (c : Bool) :
    (v <<< 1 ||| (BitVec.ofBool c).setWidth 8 : Byte).toNat = v.toNat * 2 % 256 + c.toNat := by
  revert v c; decide +kernel

theorem ror_toNat (v : Byte) (c : Bool) :
    (v >>> 1 ||| (BitVec.ofBool c).setWidth 8 <<< 7 : Byte).toNat = v.toNat / 2 + c.toNat * 128 := by
  revert v c; decide +kernel

theorem rolCore_toNat (v : Byte) (p : Status) : (rolCore v p).1.toNat = v.toNat * 2 % 256 + p.c.toNat :=
  rol_toNat v p.c

theorem rorCore_toNat (v : Byte) (p : Status) : (rorCore v p).1.toNat = v.toNat / 2 + p.c.toNat * 128 :=
  ror_toNat v p.c

theorem arrRotated_toNat (t : Byte) (c : Bool) : (arrRotated t c).toNat = t.toNat / 2 + c.toNat * 128 :=
  ror_toNat t c

/-! ### Addition, subtraction and compare as numbers -/

/-- A carry is 0 or 1. -/
theorem toNat_le_one (c : Bool) : c.toNat ≤ 1 := by cases c <;> decide

/-- The signed value of a byte from its number. -/
theorem toInt_eq (v : Byte) : v.toInt = if 128 ≤ v.toNat then (v.toNat : Int) - 256 else v.toNat := by
  have := v.isLt
  rw [BitVec.toInt_eq_toNat_cond]
  split <;> split <;> omega

theorem adcBinary_toNat (a m : Byte) (p : Status) :
    (adcBinary a m p).1.toNat = (a.toNat + m.toNat + p.c.toNat) % 256 := by
  simp [adcBinary, BitVec.toNat_ofNat]

theorem adcBinary_c (a m : Byte) (p : Status) :
    (adcBinary a m p).2.c = decide (a.toNat + m.toNat + p.c.toNat > 255) := rfl

/-- V of a binary addition is signed overflow of the sum (41_arithmetic_logic.md R151). -/
theorem adcBinary_v (a m : Byte) (p : Status) :
    (adcBinary a m p).2.v =
      decide (a.toInt + m.toInt + (p.c.toNat : Int) < -128 ∨ 127 < a.toInt + m.toInt + (p.c.toNat : Int)) := by
  have ha := a.isLt
  have hm := m.isLt
  have hc := toNat_le_one p.c
  have e : (adcBinary a m p).2.v = ((a.getLsbD 7 == m.getLsbD 7) &&
      ((a.toNat + m.toNat + p.c.toNat).testBit 7 != a.getLsbD 7)) := rfl
  rw [e, getLsbD_seven, getLsbD_seven, testBit_seven, toInt_eq, toInt_eq]
  by_cases h1 : 128 ≤ a.toNat <;> by_cases h2 : 128 ≤ m.toNat <;>
    rw [Bool.eq_iff_iff] <;> simp [h1, h2] <;> omega

theorem sbcBinary_toNat (a m : Byte) (p : Status) :
    (sbcBinary a m p).1.toNat = (a.toNat + (255 - m.toNat) + p.c.toNat) % 256 := by
  simp [sbcBinary, BitVec.toNat_ofNat]

/-- C of a subtraction is "no borrow" (41_arithmetic_logic.md R154). -/
theorem sbcBinary_c (a m : Byte) (p : Status) :
    (sbcBinary a m p).2.c = decide (m.toNat + (1 - p.c.toNat) ≤ a.toNat) := by
  have hm := m.isLt
  have hc := toNat_le_one p.c
  have e : (sbcBinary a m p).2.c = decide (a.toNat + (255 - m.toNat) + p.c.toNat > 255) := rfl
  rw [e]; congr 1; apply propext; omega

/-- V of a subtraction is signed overflow of the difference (41_arithmetic_logic.md R154). -/
theorem sbcBinary_v (a m : Byte) (p : Status) :
    (sbcBinary a m p).2.v = decide (a.toInt - m.toInt - (1 - (p.c.toNat : Int)) < -128 ∨
      127 < a.toInt - m.toInt - (1 - (p.c.toNat : Int))) := by
  have ha := a.isLt
  have hm := m.isLt
  have hc := toNat_le_one p.c
  have e : (sbcBinary a m p).2.v = ((a.getLsbD 7 != m.getLsbD 7) &&
      ((a.toNat + (255 - m.toNat) + p.c.toNat).testBit 7 != a.getLsbD 7)) := rfl
  rw [e, getLsbD_seven, getLsbD_seven, testBit_seven, toInt_eq, toInt_eq]
  by_cases h1 : 128 ≤ a.toNat <;> by_cases h2 : 128 ≤ m.toNat <;>
    rw [Bool.eq_iff_iff] <;> simp [h1, h2] <;> omega

theorem sbcBinary_n (a m : Byte) (p : Status) :
    (sbcBinary a m p).2.n = (sbcBinary a m p).1.getLsbD 7 := rfl

theorem sbcBinary_z (a m : Byte) (p : Status) :
    (sbcBinary a m p).2.z = decide ((sbcBinary a m p).1.toNat = 0) := setNZ_z _ _

theorem compareFlags_c (r m : Byte) (p : Status) : (compareFlags r m p).c = decide (m.toNat ≤ r.toNat) := rfl
theorem compareFlags_n (r m : Byte) (p : Status) : (compareFlags r m p).n = (r - m).getLsbD 7 := rfl

/-- Z of a compare is equality (41_arithmetic_logic.md R152). -/
theorem compareFlags_z (r m : Byte) (p : Status) : (compareFlags r m p).z = decide (r = m) := by
  have e : (compareFlags r m p).z = decide ((r - m).toNat = 0) := setNZ_z _ _
  have hr := r.isLt
  have hm := m.isLt
  rw [e]; congr 1; apply propext
  rw [BitVec.toNat_sub, ← BitVec.toNat_inj]; omega

/-! ### The status byte -/

/-- The flags read back from their image are the flags. -/
@[simp] theorem statusOfByte_pbyte (b : Bool) (p : Status) : statusOfByte (pbyte b p) = p := by
  obtain ⟨n, v, d, i, z, c⟩ := p
  cases b <;> cases n <;> cases v <;> cases d <;> cases i <;> cases z <;> cases c <;> rfl

/-- BRK's byte with bit 2 set reads back as the flags with I = 1. -/
@[simp] theorem statusOfByte_pbyte_or (b : Bool) (p : Status) :
    statusOfByte (pbyte b p ||| 4#8) = { p with i := true } := by
  obtain ⟨n, v, d, i, z, c⟩ := p
  cases b <;> cases n <;> cases v <;> cases d <;> cases i <;> cases z <;> cases c <;> rfl

end Sys2Proof.Machine
end

