-- ==== Sys2Proof/Laws/State.lean ====
section
/-! SUPPORT. The fields of a state after each update of Ops.lean, one lemma per field and update, and reads of memory
after an update that is not of memory. With these no proof unfolds a record update. -/

namespace Sys2Proof.Machine

/-! ### `setA` -/

@[simp] theorem State.setA_a (s : State) (v : Byte) : (s.setA v).a = v := rfl
@[simp] theorem State.setA_x (s : State) (v : Byte) : (s.setA v).x = s.x := rfl
@[simp] theorem State.setA_y (s : State) (v : Byte) : (s.setA v).y = s.y := rfl
@[simp] theorem State.setA_sp (s : State) (v : Byte) : (s.setA v).sp = s.sp := rfl
@[simp] theorem State.setA_pc (s : State) (v : Byte) : (s.setA v).pc = s.pc := rfl
@[simp] theorem State.setA_p (s : State) (v : Byte) : (s.setA v).p = s.p := rfl
@[simp] theorem State.setA_halted (s : State) (v : Byte) : (s.setA v).halted = s.halted := rfl
@[simp] theorem State.setA_nmiPending (s : State) (v : Byte) : (s.setA v).nmiPending = s.nmiPending := rfl
@[simp] theorem State.setA_irqLine (s : State) (v : Byte) : (s.setA v).irqLine = s.irqLine := rfl
@[simp] theorem State.setA_resetLine (s : State) (v : Byte) : (s.setA v).resetLine = s.resetLine := rfl
@[simp] theorem State.setA_inputs (s : State) (v : Byte) : (s.setA v).inputs = s.inputs := rfl
@[simp] theorem State.setA_mem (s : State) (v : Byte) : (s.setA v).mem = s.mem := rfl
@[simp] theorem State.setA_params (s : State) (v : Byte) : (s.setA v).params = s.params := rfl
@[simp] theorem State.setA_draws (s : State) (v : Byte) : (s.setA v).draws = s.draws := rfl
@[simp] theorem State.setA_read (s : State) (v : Byte) (c : Addr) : (s.setA v).read c = s.read c := rfl
@[simp] theorem State.setA_read16 (s : State) (v : Byte) (c : Addr) : (s.setA v).read16 c = s.read16 c := rfl

/-! ### `setX` -/

@[simp] theorem State.setX_a (s : State) (v : Byte) : (s.setX v).a = s.a := rfl
@[simp] theorem State.setX_x (s : State) (v : Byte) : (s.setX v).x = v := rfl
@[simp] theorem State.setX_y (s : State) (v : Byte) : (s.setX v).y = s.y := rfl
@[simp] theorem State.setX_sp (s : State) (v : Byte) : (s.setX v).sp = s.sp := rfl
@[simp] theorem State.setX_pc (s : State) (v : Byte) : (s.setX v).pc = s.pc := rfl
@[simp] theorem State.setX_p (s : State) (v : Byte) : (s.setX v).p = s.p := rfl
@[simp] theorem State.setX_halted (s : State) (v : Byte) : (s.setX v).halted = s.halted := rfl
@[simp] theorem State.setX_nmiPending (s : State) (v : Byte) : (s.setX v).nmiPending = s.nmiPending := rfl
@[simp] theorem State.setX_irqLine (s : State) (v : Byte) : (s.setX v).irqLine = s.irqLine := rfl
@[simp] theorem State.setX_resetLine (s : State) (v : Byte) : (s.setX v).resetLine = s.resetLine := rfl
@[simp] theorem State.setX_inputs (s : State) (v : Byte) : (s.setX v).inputs = s.inputs := rfl
@[simp] theorem State.setX_mem (s : State) (v : Byte) : (s.setX v).mem = s.mem := rfl
@[simp] theorem State.setX_params (s : State) (v : Byte) : (s.setX v).params = s.params := rfl
@[simp] theorem State.setX_draws (s : State) (v : Byte) : (s.setX v).draws = s.draws := rfl
@[simp] theorem State.setX_read (s : State) (v : Byte) (c : Addr) : (s.setX v).read c = s.read c := rfl
@[simp] theorem State.setX_read16 (s : State) (v : Byte) (c : Addr) : (s.setX v).read16 c = s.read16 c := rfl

/-! ### `setY` -/

@[simp] theorem State.setY_a (s : State) (v : Byte) : (s.setY v).a = s.a := rfl
@[simp] theorem State.setY_x (s : State) (v : Byte) : (s.setY v).x = s.x := rfl
@[simp] theorem State.setY_y (s : State) (v : Byte) : (s.setY v).y = v := rfl
@[simp] theorem State.setY_sp (s : State) (v : Byte) : (s.setY v).sp = s.sp := rfl
@[simp] theorem State.setY_pc (s : State) (v : Byte) : (s.setY v).pc = s.pc := rfl
@[simp] theorem State.setY_p (s : State) (v : Byte) : (s.setY v).p = s.p := rfl
@[simp] theorem State.setY_halted (s : State) (v : Byte) : (s.setY v).halted = s.halted := rfl
@[simp] theorem State.setY_nmiPending (s : State) (v : Byte) : (s.setY v).nmiPending = s.nmiPending := rfl
@[simp] theorem State.setY_irqLine (s : State) (v : Byte) : (s.setY v).irqLine = s.irqLine := rfl
@[simp] theorem State.setY_resetLine (s : State) (v : Byte) : (s.setY v).resetLine = s.resetLine := rfl
@[simp] theorem State.setY_inputs (s : State) (v : Byte) : (s.setY v).inputs = s.inputs := rfl
@[simp] theorem State.setY_mem (s : State) (v : Byte) : (s.setY v).mem = s.mem := rfl
@[simp] theorem State.setY_params (s : State) (v : Byte) : (s.setY v).params = s.params := rfl
@[simp] theorem State.setY_draws (s : State) (v : Byte) : (s.setY v).draws = s.draws := rfl
@[simp] theorem State.setY_read (s : State) (v : Byte) (c : Addr) : (s.setY v).read c = s.read c := rfl
@[simp] theorem State.setY_read16 (s : State) (v : Byte) (c : Addr) : (s.setY v).read16 c = s.read16 c := rfl

/-! ### `setSp` -/

@[simp] theorem State.setSp_a (s : State) (v : Byte) : (s.setSp v).a = s.a := rfl
@[simp] theorem State.setSp_x (s : State) (v : Byte) : (s.setSp v).x = s.x := rfl
@[simp] theorem State.setSp_y (s : State) (v : Byte) : (s.setSp v).y = s.y := rfl
@[simp] theorem State.setSp_sp (s : State) (v : Byte) : (s.setSp v).sp = v := rfl
@[simp] theorem State.setSp_pc (s : State) (v : Byte) : (s.setSp v).pc = s.pc := rfl
@[simp] theorem State.setSp_p (s : State) (v : Byte) : (s.setSp v).p = s.p := rfl
@[simp] theorem State.setSp_halted (s : State) (v : Byte) : (s.setSp v).halted = s.halted := rfl
@[simp] theorem State.setSp_nmiPending (s : State) (v : Byte) : (s.setSp v).nmiPending = s.nmiPending := rfl
@[simp] theorem State.setSp_irqLine (s : State) (v : Byte) : (s.setSp v).irqLine = s.irqLine := rfl
@[simp] theorem State.setSp_resetLine (s : State) (v : Byte) : (s.setSp v).resetLine = s.resetLine := rfl
@[simp] theorem State.setSp_inputs (s : State) (v : Byte) : (s.setSp v).inputs = s.inputs := rfl
@[simp] theorem State.setSp_mem (s : State) (v : Byte) : (s.setSp v).mem = s.mem := rfl
@[simp] theorem State.setSp_params (s : State) (v : Byte) : (s.setSp v).params = s.params := rfl
@[simp] theorem State.setSp_draws (s : State) (v : Byte) : (s.setSp v).draws = s.draws := rfl
@[simp] theorem State.setSp_read (s : State) (v : Byte) (c : Addr) : (s.setSp v).read c = s.read c := rfl
@[simp] theorem State.setSp_read16 (s : State) (v : Byte) (c : Addr) : (s.setSp v).read16 c = s.read16 c := rfl

/-! ### `setPc` -/

@[simp] theorem State.setPc_a (s : State) (t : Addr) : (s.setPc t).a = s.a := rfl
@[simp] theorem State.setPc_x (s : State) (t : Addr) : (s.setPc t).x = s.x := rfl
@[simp] theorem State.setPc_y (s : State) (t : Addr) : (s.setPc t).y = s.y := rfl
@[simp] theorem State.setPc_sp (s : State) (t : Addr) : (s.setPc t).sp = s.sp := rfl
@[simp] theorem State.setPc_pc (s : State) (t : Addr) : (s.setPc t).pc = t := rfl
@[simp] theorem State.setPc_p (s : State) (t : Addr) : (s.setPc t).p = s.p := rfl
@[simp] theorem State.setPc_halted (s : State) (t : Addr) : (s.setPc t).halted = s.halted := rfl
@[simp] theorem State.setPc_nmiPending (s : State) (t : Addr) : (s.setPc t).nmiPending = s.nmiPending := rfl
@[simp] theorem State.setPc_irqLine (s : State) (t : Addr) : (s.setPc t).irqLine = s.irqLine := rfl
@[simp] theorem State.setPc_resetLine (s : State) (t : Addr) : (s.setPc t).resetLine = s.resetLine := rfl
@[simp] theorem State.setPc_inputs (s : State) (t : Addr) : (s.setPc t).inputs = s.inputs := rfl
@[simp] theorem State.setPc_mem (s : State) (t : Addr) : (s.setPc t).mem = s.mem := rfl
@[simp] theorem State.setPc_params (s : State) (t : Addr) : (s.setPc t).params = s.params := rfl
@[simp] theorem State.setPc_draws (s : State) (t : Addr) : (s.setPc t).draws = s.draws := rfl
@[simp] theorem State.setPc_read (s : State) (t : Addr) (c : Addr) : (s.setPc t).read c = s.read c := rfl
@[simp] theorem State.setPc_read16 (s : State) (t : Addr) (c : Addr) : (s.setPc t).read16 c = s.read16 c := rfl

/-! ### `setP` -/

@[simp] theorem State.setP_a (s : State) (q : Status) : (s.setP q).a = s.a := rfl
@[simp] theorem State.setP_x (s : State) (q : Status) : (s.setP q).x = s.x := rfl
@[simp] theorem State.setP_y (s : State) (q : Status) : (s.setP q).y = s.y := rfl
@[simp] theorem State.setP_sp (s : State) (q : Status) : (s.setP q).sp = s.sp := rfl
@[simp] theorem State.setP_pc (s : State) (q : Status) : (s.setP q).pc = s.pc := rfl
@[simp] theorem State.setP_p (s : State) (q : Status) : (s.setP q).p = q := rfl
@[simp] theorem State.setP_halted (s : State) (q : Status) : (s.setP q).halted = s.halted := rfl
@[simp] theorem State.setP_nmiPending (s : State) (q : Status) : (s.setP q).nmiPending = s.nmiPending := rfl
@[simp] theorem State.setP_irqLine (s : State) (q : Status) : (s.setP q).irqLine = s.irqLine := rfl
@[simp] theorem State.setP_resetLine (s : State) (q : Status) : (s.setP q).resetLine = s.resetLine := rfl
@[simp] theorem State.setP_inputs (s : State) (q : Status) : (s.setP q).inputs = s.inputs := rfl
@[simp] theorem State.setP_mem (s : State) (q : Status) : (s.setP q).mem = s.mem := rfl
@[simp] theorem State.setP_params (s : State) (q : Status) : (s.setP q).params = s.params := rfl
@[simp] theorem State.setP_draws (s : State) (q : Status) : (s.setP q).draws = s.draws := rfl
@[simp] theorem State.setP_read (s : State) (q : Status) (c : Addr) : (s.setP q).read c = s.read c := rfl
@[simp] theorem State.setP_read16 (s : State) (q : Status) (c : Addr) : (s.setP q).read16 c = s.read16 c := rfl

/-! ### `setMem` -/

@[simp] theorem State.setMem_a (s : State) (m : Memory) : (s.setMem m).a = s.a := rfl
@[simp] theorem State.setMem_x (s : State) (m : Memory) : (s.setMem m).x = s.x := rfl
@[simp] theorem State.setMem_y (s : State) (m : Memory) : (s.setMem m).y = s.y := rfl
@[simp] theorem State.setMem_sp (s : State) (m : Memory) : (s.setMem m).sp = s.sp := rfl
@[simp] theorem State.setMem_pc (s : State) (m : Memory) : (s.setMem m).pc = s.pc := rfl
@[simp] theorem State.setMem_p (s : State) (m : Memory) : (s.setMem m).p = s.p := rfl
@[simp] theorem State.setMem_halted (s : State) (m : Memory) : (s.setMem m).halted = s.halted := rfl
@[simp] theorem State.setMem_nmiPending (s : State) (m : Memory) : (s.setMem m).nmiPending = s.nmiPending := rfl
@[simp] theorem State.setMem_irqLine (s : State) (m : Memory) : (s.setMem m).irqLine = s.irqLine := rfl
@[simp] theorem State.setMem_resetLine (s : State) (m : Memory) : (s.setMem m).resetLine = s.resetLine := rfl
@[simp] theorem State.setMem_inputs (s : State) (m : Memory) : (s.setMem m).inputs = s.inputs := rfl
@[simp] theorem State.setMem_mem (s : State) (m : Memory) : (s.setMem m).mem = m := rfl
@[simp] theorem State.setMem_params (s : State) (m : Memory) : (s.setMem m).params = s.params := rfl
@[simp] theorem State.setMem_draws (s : State) (m : Memory) : (s.setMem m).draws = s.draws := rfl
@[simp] theorem State.setMem_read (s : State) (m : Memory) (b : Addr) : (s.setMem m).read b = m.read b := rfl

/-! ### `setHalted` -/

@[simp] theorem State.setHalted_a (s : State) (b : Bool) : (s.setHalted b).a = s.a := rfl
@[simp] theorem State.setHalted_x (s : State) (b : Bool) : (s.setHalted b).x = s.x := rfl
@[simp] theorem State.setHalted_y (s : State) (b : Bool) : (s.setHalted b).y = s.y := rfl
@[simp] theorem State.setHalted_sp (s : State) (b : Bool) : (s.setHalted b).sp = s.sp := rfl
@[simp] theorem State.setHalted_pc (s : State) (b : Bool) : (s.setHalted b).pc = s.pc := rfl
@[simp] theorem State.setHalted_p (s : State) (b : Bool) : (s.setHalted b).p = s.p := rfl
@[simp] theorem State.setHalted_halted (s : State) (b : Bool) : (s.setHalted b).halted = b := rfl
@[simp] theorem State.setHalted_nmiPending (s : State) (b : Bool) : (s.setHalted b).nmiPending = s.nmiPending := rfl
@[simp] theorem State.setHalted_irqLine (s : State) (b : Bool) : (s.setHalted b).irqLine = s.irqLine := rfl
@[simp] theorem State.setHalted_resetLine (s : State) (b : Bool) : (s.setHalted b).resetLine = s.resetLine := rfl
@[simp] theorem State.setHalted_inputs (s : State) (b : Bool) : (s.setHalted b).inputs = s.inputs := rfl
@[simp] theorem State.setHalted_mem (s : State) (b : Bool) : (s.setHalted b).mem = s.mem := rfl
@[simp] theorem State.setHalted_params (s : State) (b : Bool) : (s.setHalted b).params = s.params := rfl
@[simp] theorem State.setHalted_draws (s : State) (b : Bool) : (s.setHalted b).draws = s.draws := rfl
@[simp] theorem State.setHalted_read (s : State) (b : Bool) (c : Addr) : (s.setHalted b).read c = s.read c := rfl
@[simp] theorem State.setHalted_read16 (s : State) (b : Bool) (c : Addr) : (s.setHalted b).read16 c = s.read16 c := rfl

/-! ### `setNmiPending` -/

@[simp] theorem State.setNmiPending_a (s : State) (b : Bool) : (s.setNmiPending b).a = s.a := rfl
@[simp] theorem State.setNmiPending_x (s : State) (b : Bool) : (s.setNmiPending b).x = s.x := rfl
@[simp] theorem State.setNmiPending_y (s : State) (b : Bool) : (s.setNmiPending b).y = s.y := rfl
@[simp] theorem State.setNmiPending_sp (s : State) (b : Bool) : (s.setNmiPending b).sp = s.sp := rfl
@[simp] theorem State.setNmiPending_pc (s : State) (b : Bool) : (s.setNmiPending b).pc = s.pc := rfl
@[simp] theorem State.setNmiPending_p (s : State) (b : Bool) : (s.setNmiPending b).p = s.p := rfl
@[simp] theorem State.setNmiPending_halted (s : State) (b : Bool) : (s.setNmiPending b).halted = s.halted := rfl
@[simp] theorem State.setNmiPending_nmiPending (s : State) (b : Bool) : (s.setNmiPending b).nmiPending = b := rfl
@[simp] theorem State.setNmiPending_irqLine (s : State) (b : Bool) : (s.setNmiPending b).irqLine = s.irqLine := rfl
@[simp] theorem State.setNmiPending_resetLine (s : State) (b : Bool) : (s.setNmiPending b).resetLine = s.resetLine := rfl
@[simp] theorem State.setNmiPending_inputs (s : State) (b : Bool) : (s.setNmiPending b).inputs = s.inputs := rfl
@[simp] theorem State.setNmiPending_mem (s : State) (b : Bool) : (s.setNmiPending b).mem = s.mem := rfl
@[simp] theorem State.setNmiPending_params (s : State) (b : Bool) : (s.setNmiPending b).params = s.params := rfl
@[simp] theorem State.setNmiPending_draws (s : State) (b : Bool) : (s.setNmiPending b).draws = s.draws := rfl
@[simp] theorem State.setNmiPending_read (s : State) (b : Bool) (c : Addr) : (s.setNmiPending b).read c = s.read c := rfl
@[simp] theorem State.setNmiPending_read16 (s : State) (b : Bool) (c : Addr) : (s.setNmiPending b).read16 c = s.read16 c := rfl

/-! ### `nextDraw` -/

@[simp] theorem State.nextDraw_a (s : State) : s.nextDraw.a = s.a := rfl
@[simp] theorem State.nextDraw_x (s : State) : s.nextDraw.x = s.x := rfl
@[simp] theorem State.nextDraw_y (s : State) : s.nextDraw.y = s.y := rfl
@[simp] theorem State.nextDraw_sp (s : State) : s.nextDraw.sp = s.sp := rfl
@[simp] theorem State.nextDraw_pc (s : State) : s.nextDraw.pc = s.pc := rfl
@[simp] theorem State.nextDraw_p (s : State) : s.nextDraw.p = s.p := rfl
@[simp] theorem State.nextDraw_halted (s : State) : s.nextDraw.halted = s.halted := rfl
@[simp] theorem State.nextDraw_nmiPending (s : State) : s.nextDraw.nmiPending = s.nmiPending := rfl
@[simp] theorem State.nextDraw_irqLine (s : State) : s.nextDraw.irqLine = s.irqLine := rfl
@[simp] theorem State.nextDraw_resetLine (s : State) : s.nextDraw.resetLine = s.resetLine := rfl
@[simp] theorem State.nextDraw_inputs (s : State) : s.nextDraw.inputs = s.inputs := rfl
@[simp] theorem State.nextDraw_mem (s : State) : s.nextDraw.mem = s.mem := rfl
@[simp] theorem State.nextDraw_params (s : State) : s.nextDraw.params = s.params := rfl
@[simp] theorem State.nextDraw_draws (s : State) : s.nextDraw.draws = s.draws + 1 := rfl
@[simp] theorem State.nextDraw_read (s : State) (c : Addr) : s.nextDraw.read c = s.read c := rfl
@[simp] theorem State.nextDraw_read16 (s : State) (c : Addr) : s.nextDraw.read16 c = s.read16 c := rfl

/-! ### `write` -/

@[simp] theorem State.write_a (s : State) (a : Addr) (v : Byte) : (s.write a v).a = s.a := rfl
@[simp] theorem State.write_x (s : State) (a : Addr) (v : Byte) : (s.write a v).x = s.x := rfl
@[simp] theorem State.write_y (s : State) (a : Addr) (v : Byte) : (s.write a v).y = s.y := rfl
@[simp] theorem State.write_sp (s : State) (a : Addr) (v : Byte) : (s.write a v).sp = s.sp := rfl
@[simp] theorem State.write_pc (s : State) (a : Addr) (v : Byte) : (s.write a v).pc = s.pc := rfl
@[simp] theorem State.write_p (s : State) (a : Addr) (v : Byte) : (s.write a v).p = s.p := rfl
@[simp] theorem State.write_halted (s : State) (a : Addr) (v : Byte) : (s.write a v).halted = s.halted := rfl
@[simp] theorem State.write_nmiPending (s : State) (a : Addr) (v : Byte) : (s.write a v).nmiPending = s.nmiPending := rfl
@[simp] theorem State.write_irqLine (s : State) (a : Addr) (v : Byte) : (s.write a v).irqLine = s.irqLine := rfl
@[simp] theorem State.write_resetLine (s : State) (a : Addr) (v : Byte) : (s.write a v).resetLine = s.resetLine := rfl
@[simp] theorem State.write_inputs (s : State) (a : Addr) (v : Byte) : (s.write a v).inputs = s.inputs := rfl
@[simp] theorem State.write_mem (s : State) (a : Addr) (v : Byte) : (s.write a v).mem = s.mem.write a v := rfl
@[simp] theorem State.write_params (s : State) (a : Addr) (v : Byte) : (s.write a v).params = s.params := rfl
@[simp] theorem State.write_draws (s : State) (a : Addr) (v : Byte) : (s.write a v).draws = s.draws := rfl

end Sys2Proof.Machine
end

