-- ==== Sys2Proof/Laws/Memory.lean ====
section
/-! SUPPORT. Memory: a read after a write, and the canonical form, which every memory operation keeps. The read laws hold
of every list, canonical or not. -/

namespace Sys2Proof.Machine

/-- A key that was erased reads as an unlisted address. -/
theorem Memory.lookup_erase_self (m : Memory) (a : Nat) : (m.erase a).lookup a = Memory.unlisted := by
  induction m with
  | nil => rfl
  | cons e rest ih =>
    obtain ⟨k, b⟩ := e
    by_cases h : k = a <;> simp [Memory.erase, Memory.lookup, h, ih]

/-- Erasing a key leaves every other key. -/
theorem Memory.lookup_erase_ne (m : Memory) {a c : Nat} (hne : c ≠ a) : (m.erase a).lookup c = m.lookup c := by
  induction m with
  | nil => rfl
  | cons e rest ih =>
    obtain ⟨k, b⟩ := e
    by_cases h : k = a
    · subst h; simp [Memory.erase, Memory.lookup, ih, hne.symm]
    · simp only [Memory.erase, h, if_false, Memory.lookup, ih]

/-- A key inserted where it is not listed reads as the byte inserted. -/
theorem Memory.lookup_insert_erase_self (m : Memory) (a : Nat) (v : Byte) :
    ((m.erase a).insert a v).lookup a = v := by
  induction m with
  | nil => simp [Memory.erase, Memory.insert, Memory.lookup]
  | cons e rest ih =>
    obtain ⟨k, b⟩ := e
    by_cases h : k = a
    · simp [Memory.erase, h, ih]
    · by_cases hlt : a < k <;> simp [Memory.erase, Memory.insert, Memory.lookup, h, hlt, ih]

/-- Inserting a key leaves every other key. -/
theorem Memory.lookup_insert_ne (m : Memory) {a c : Nat} (v : Byte) (hne : c ≠ a) :
    (m.insert a v).lookup c = m.lookup c := by
  induction m with
  | nil => simp [Memory.insert, Memory.lookup, hne.symm]
  | cons e rest ih =>
    obtain ⟨k, b⟩ := e
    by_cases hlt : a < k
    · simp [Memory.insert, Memory.lookup, hlt, hne.symm]
    · simp only [Memory.insert, hlt, if_false, Memory.lookup, ih]

/-- The address written reads as the byte written. -/
@[simp] theorem Memory.read_write_self (m : Memory) (a : Addr) (v : Byte) : (m.write a v).read a = v := by
  by_cases h : v = Memory.unlisted
  · simp [Memory.write, Memory.read, h, Memory.lookup_erase_self]
  · simp [Memory.write, Memory.read, h, Memory.lookup_insert_erase_self]

/-- Every other address reads as before. -/
theorem Memory.read_write_ne (m : Memory) {a b : Addr} (v : Byte) (hne : b ≠ a) :
    (m.write a v).read b = m.read b := by
  have h : b.toNat ≠ a.toNat := fun hh => hne (BitVec.eq_of_toNat_eq hh)
  unfold Memory.write Memory.read
  split
  · exact Memory.lookup_erase_ne m h
  · rw [Memory.lookup_insert_ne _ v h, Memory.lookup_erase_ne m h]

/-- What every address reads as after a write. -/
theorem Memory.read_write (m : Memory) (a b : Addr) (v : Byte) :
    (m.write a v).read b = if b = a then v else m.read b := by
  by_cases h : b = a
  · simp [h]
  · simp [h, Memory.read_write_ne]

/-- A state's read after its write. -/
theorem State.read_write (s : State) (a b : Addr) (v : Byte) :
    (s.write a v).read b = if b = a then v else s.read b := Memory.read_write s.mem a b v

@[simp] theorem State.read_write_self (s : State) (a : Addr) (v : Byte) : (s.write a v).read a = v :=
  Memory.read_write_self s.mem a v

/-- A state's read at another address than the one written. -/
theorem State.read_write_ne (s : State) {a b : Addr} (v : Byte) (hne : b ≠ a) :
    (s.write a v).read b = s.read b := Memory.read_write_ne s.mem v hne

/-! ### The canonical form -/

/-- The form holds from any smaller least key too. -/
theorem Memory.wfFrom_mono {m : Memory} {j k : Nat} (hjk : j ≤ k) (h : Memory.wfFrom k m = true) :
    Memory.wfFrom j m = true := by
  cases m with
  | nil => rfl
  | cons e rest =>
    obtain ⟨k', b⟩ := e
    simp only [Memory.wfFrom, Bool.and_eq_true, decide_eq_true_eq] at h ⊢
    exact ⟨⟨⟨by omega, h.1.1.2⟩, h.1.2⟩, h.2⟩

/-- Erasing a key keeps the form. -/
theorem Memory.wfFrom_erase {m : Memory} {j : Nat} (a : Nat) (h : Memory.wfFrom j m = true) :
    Memory.wfFrom j (m.erase a) = true := by
  induction m generalizing j with
  | nil => rfl
  | cons e rest ih =>
    obtain ⟨k, b⟩ := e
    simp only [Memory.wfFrom, Bool.and_eq_true, decide_eq_true_eq] at h
    by_cases hk : k = a
    · simp only [Memory.erase, hk, if_true]
      exact ih (Memory.wfFrom_mono (by omega) h.2)
    · simp only [Memory.erase, hk, if_false, Memory.wfFrom, Bool.and_eq_true, decide_eq_true_eq]
      exact ⟨h.1, ih h.2⟩

/-- Inserting a key that is not listed keeps the form. -/
theorem Memory.wfFrom_insert_erase {m : Memory} {j a : Nat} {v : Byte} (hv : v ≠ Memory.unlisted) (ha : a < 65536)
    (hj : j ≤ a) (h : Memory.wfFrom j m = true) : Memory.wfFrom j ((m.erase a).insert a v) = true := by
  induction m generalizing j with
  | nil => simp [Memory.erase, Memory.insert, Memory.wfFrom, hv, ha, hj]
  | cons e rest ih =>
    obtain ⟨k, b⟩ := e
    simp only [Memory.wfFrom, Bool.and_eq_true, decide_eq_true_eq] at h
    by_cases hk : k = a
    · simp only [Memory.erase, hk, if_true]
      exact ih hj (Memory.wfFrom_mono (by omega) h.2)
    · simp only [Memory.erase, hk, if_false]
      by_cases hlt : a < k
      · simp only [Memory.insert, hlt, if_true, Memory.wfFrom, Bool.and_eq_true, decide_eq_true_eq]
        exact ⟨⟨⟨hj, ha⟩, hv⟩, ⟨⟨by omega, h.1.1.2⟩, h.1.2⟩, Memory.wfFrom_erase a h.2⟩
      · simp only [Memory.insert, hlt, if_false, Memory.wfFrom, Bool.and_eq_true, decide_eq_true_eq]
        exact ⟨h.1, ih (by omega) h.2⟩

/-- A write keeps the canonical form. -/
theorem Memory.wf_write {m : Memory} (a : Addr) (v : Byte) (h : m.wf = true) : (m.write a v).wf = true := by
  unfold Memory.write
  split
  · exact Memory.wfFrom_erase _ h
  · exact Memory.wfFrom_insert_erase (by assumption) a.isLt (Nat.zero_le _) h

/-- The memory of State.reset has the canonical form. -/
theorem Memory.wf_empty : Memory.empty.wf = true := rfl

/-- No byte is listed in the memory of State.reset. -/
@[simp] theorem Memory.read_empty (a : Addr) : Memory.empty.read a = Memory.unlisted := rfl

end Sys2Proof.Machine
end

