-- ==== Sys2Proof/Laws/Operands.lean ====
section
/-! SUPPORT. The helpers on addresses as numbers, and the stack addresses. -/

namespace Sys2Proof.Machine

@[simp] theorem lo_toNat (w : Addr) : (lo w).toNat = w.toNat % 256 := by
  simp [lo, BitVec.toNat_setWidth]

@[simp] theorem hi_toNat (w : Addr) : (hi w).toNat = w.toNat / 256 := by
  have := w.isLt
  simp only [hi, BitVec.toNat_setWidth, BitVec.toNat_ushiftRight, Nat.shiftRight_eq_div_pow]
  omega

@[simp] theorem cat_toNat (h l : Byte) : (cat h l).toNat = h.toNat * 256 + l.toNat := by
  have := l.isLt
  simp only [cat, BitVec.toNat_append]
  rw [← Nat.shiftLeft_add_eq_or_of_lt this, Nat.shiftLeft_eq]

@[simp] theorem zext_toNat (v : Byte) : (zext v).toNat = v.toNat := by
  have := v.isLt
  simp only [zext, BitVec.toNat_setWidth]; omega

theorem sext_toInt (v : Byte) : (sext v).toInt = v.toInt := BitVec.toInt_signExtend_of_le (by decide)

/-- A 16-bit value is its high byte over its low byte. -/
@[simp] theorem cat_hi_lo (w : Addr) : cat (hi w) (lo w) = w := by
  apply BitVec.eq_of_toNat_eq; simp; omega

@[simp] theorem hi_cat (h l : Byte) : hi (cat h l) = h := by
  have := l.isLt
  apply BitVec.eq_of_toNat_eq; simp; omega

@[simp] theorem lo_cat (h l : Byte) : lo (cat h l) = l := by
  have := l.isLt
  apply BitVec.eq_of_toNat_eq; simp; omega

/-- A zero-extended byte as an address number. -/
theorem zext_eq_ofNat (v : Byte) : zext v = BitVec.ofNat 16 v.toNat := by
  have := v.isLt
  apply BitVec.eq_of_toNat_eq; simp; omega

/-- A pair of bytes as an address number. -/
theorem cat_eq_ofNat (h l : Byte) : cat h l = BitVec.ofNat 16 (h.toNat * 256 + l.toNat) := by
  have := l.isLt
  have := h.isLt
  apply BitVec.eq_of_toNat_eq; simp; omega

/-- Two stack addresses are equal exactly when the pointers are. -/
@[simp] theorem stackAddr_inj (p q : Byte) : stackAddr p = stackAddr q ↔ p = q := by
  constructor
  · intro h
    have h' := congrArg lo h
    simpa [stackAddr] using h'
  · rintro rfl; rfl

/-- Stack addresses lie in page 1. -/
@[simp] theorem hi_stackAddr (p : Byte) : hi (stackAddr p) = 1 := by simp [stackAddr, stackPage]

/-- An address of another page is no stack address. -/
theorem ne_stackAddr {b : Addr} (h : hi b ≠ 1) (p : Byte) : b ≠ stackAddr p := by
  rintro rfl; exact h (hi_stackAddr p)

end Sys2Proof.Machine
end

