-- ==== Sys2Proof/Laws/Ops.lean ====
section
/-! SUPPORT. What each shared operation of Ops.lean does, field by field, once: the stack, the trap entries and the return
from a trap, the reset event, sampling, the read-modify-write frame. -/

namespace Sys2Proof.Machine

/-! ### `push` -/

@[simp] theorem State.push_a (s : State) (v : Byte) : (s.push v).a = s.a := rfl
@[simp] theorem State.push_x (s : State) (v : Byte) : (s.push v).x = s.x := rfl
@[simp] theorem State.push_y (s : State) (v : Byte) : (s.push v).y = s.y := rfl
@[simp] theorem State.push_sp (s : State) (v : Byte) : (s.push v).sp = s.sp - 1 := rfl
@[simp] theorem State.push_pc (s : State) (v : Byte) : (s.push v).pc = s.pc := rfl
@[simp] theorem State.push_p (s : State) (v : Byte) : (s.push v).p = s.p := rfl
@[simp] theorem State.push_halted (s : State) (v : Byte) : (s.push v).halted = s.halted := rfl
@[simp] theorem State.push_nmiPending (s : State) (v : Byte) : (s.push v).nmiPending = s.nmiPending := rfl
@[simp] theorem State.push_irqLine (s : State) (v : Byte) : (s.push v).irqLine = s.irqLine := rfl
@[simp] theorem State.push_resetLine (s : State) (v : Byte) : (s.push v).resetLine = s.resetLine := rfl
@[simp] theorem State.push_inputs (s : State) (v : Byte) : (s.push v).inputs = s.inputs := rfl
@[simp] theorem State.push_mem (s : State) (v : Byte) : (s.push v).mem = s.mem.write (stackAddr s.sp) v := rfl
@[simp] theorem State.push_params (s : State) (v : Byte) : (s.push v).params = s.params := rfl
@[simp] theorem State.push_draws (s : State) (v : Byte) : (s.push v).draws = s.draws := rfl

/-- Memory after a push. -/
theorem State.push_read (s : State) (v : Byte) (b : Addr) :
    (s.push v).read b = if b = stackAddr s.sp then v else s.read b := State.read_write s _ b v

@[simp] theorem State.push_read_self (s : State) (v : Byte) : (s.push v).read (stackAddr s.sp) = v := by
  simp [State.push_read]

/-- One pushed byte is what the next pull delivers. -/
@[simp] theorem State.pulled_push (s : State) (v : Byte) : (s.push v).pulled = v := by
  simp [State.pulled, State.push_read]

/-! ### `push16` -/

@[simp] theorem State.push16_a (s : State) (w : Addr) : (s.push16 w).a = s.a := by simp [State.push16]
@[simp] theorem State.push16_x (s : State) (w : Addr) : (s.push16 w).x = s.x := by simp [State.push16]
@[simp] theorem State.push16_y (s : State) (w : Addr) : (s.push16 w).y = s.y := by simp [State.push16]
@[simp] theorem State.push16_sp (s : State) (w : Addr) : (s.push16 w).sp = s.sp - 1 - 1 := by simp [State.push16]
@[simp] theorem State.push16_pc (s : State) (w : Addr) : (s.push16 w).pc = s.pc := by simp [State.push16]
@[simp] theorem State.push16_p (s : State) (w : Addr) : (s.push16 w).p = s.p := by simp [State.push16]
@[simp] theorem State.push16_halted (s : State) (w : Addr) : (s.push16 w).halted = s.halted := by simp [State.push16]
@[simp] theorem State.push16_nmiPending (s : State) (w : Addr) : (s.push16 w).nmiPending = s.nmiPending := by simp [State.push16]
@[simp] theorem State.push16_irqLine (s : State) (w : Addr) : (s.push16 w).irqLine = s.irqLine := by simp [State.push16]
@[simp] theorem State.push16_resetLine (s : State) (w : Addr) : (s.push16 w).resetLine = s.resetLine := by simp [State.push16]
@[simp] theorem State.push16_inputs (s : State) (w : Addr) : (s.push16 w).inputs = s.inputs := by simp [State.push16]
@[simp] theorem State.push16_params (s : State) (w : Addr) : (s.push16 w).params = s.params := by simp [State.push16]
@[simp] theorem State.push16_draws (s : State) (w : Addr) : (s.push16 w).draws = s.draws := by simp [State.push16]

/-- Memory after two bytes are pushed: the high byte above the low byte (20_memory.md R51). -/
theorem State.push16_read (s : State) (w : Addr) (b : Addr) :
    (s.push16 w).read b =
      if b = stackAddr (s.sp - 1) then lo w else if b = stackAddr s.sp then hi w else s.read b := by
  simp [State.push16, State.push_read]

/-! ### `afterPull` -/

@[simp] theorem State.afterPull_a (s : State) : s.afterPull.a = s.a := rfl
@[simp] theorem State.afterPull_x (s : State) : s.afterPull.x = s.x := rfl
@[simp] theorem State.afterPull_y (s : State) : s.afterPull.y = s.y := rfl
@[simp] theorem State.afterPull_sp (s : State) : s.afterPull.sp = s.sp + 1 := rfl
@[simp] theorem State.afterPull_pc (s : State) : s.afterPull.pc = s.pc := rfl
@[simp] theorem State.afterPull_p (s : State) : s.afterPull.p = s.p := rfl
@[simp] theorem State.afterPull_halted (s : State) : s.afterPull.halted = s.halted := rfl
@[simp] theorem State.afterPull_nmiPending (s : State) : s.afterPull.nmiPending = s.nmiPending := rfl
@[simp] theorem State.afterPull_irqLine (s : State) : s.afterPull.irqLine = s.irqLine := rfl
@[simp] theorem State.afterPull_resetLine (s : State) : s.afterPull.resetLine = s.resetLine := rfl
@[simp] theorem State.afterPull_inputs (s : State) : s.afterPull.inputs = s.inputs := rfl
@[simp] theorem State.afterPull_mem (s : State) : s.afterPull.mem = s.mem := rfl
@[simp] theorem State.afterPull_params (s : State) : s.afterPull.params = s.params := rfl
@[simp] theorem State.afterPull_draws (s : State) : s.afterPull.draws = s.draws := rfl

@[simp] theorem State.afterPull_read (s : State) (b : Addr) : s.afterPull.read b = s.read b := rfl

/-- The byte a pull delivers is the one above the stack pointer (00_scope.md R8). -/
theorem State.pulled_eq (s : State) : s.pulled = s.read (stackAddr (s.sp + 1)) := rfl

/-- The word two pulls deliver. -/
theorem State.pulled16_eq (s : State) :
    s.pulled16 = cat (s.read (stackAddr (s.sp + 1 + 1))) (s.read (stackAddr (s.sp + 1))) := rfl

/-- A word as two reads, low byte first. -/
theorem State.read16_eq (s : State) (a : Addr) : s.read16 a = cat (s.read (a + 1)) (s.read a) := rfl

/-! ### `trapEntry` -/

@[simp] theorem State.trapEntry_a (s : State) (ret : Addr) (status : Byte) (vec : Addr) : (s.trapEntry ret status vec).a = s.a := by simp [State.trapEntry]
@[simp] theorem State.trapEntry_x (s : State) (ret : Addr) (status : Byte) (vec : Addr) : (s.trapEntry ret status vec).x = s.x := by simp [State.trapEntry]
@[simp] theorem State.trapEntry_y (s : State) (ret : Addr) (status : Byte) (vec : Addr) : (s.trapEntry ret status vec).y = s.y := by simp [State.trapEntry]
@[simp] theorem State.trapEntry_sp (s : State) (ret : Addr) (status : Byte) (vec : Addr) : (s.trapEntry ret status vec).sp = s.sp - 1 - 1 - 1 := by simp [State.trapEntry]
@[simp] theorem State.trapEntry_p (s : State) (ret : Addr) (status : Byte) (vec : Addr) : (s.trapEntry ret status vec).p = { s.p with i := true } := by simp [State.trapEntry]
@[simp] theorem State.trapEntry_halted (s : State) (ret : Addr) (status : Byte) (vec : Addr) : (s.trapEntry ret status vec).halted = s.halted := by simp [State.trapEntry]
@[simp] theorem State.trapEntry_nmiPending (s : State) (ret : Addr) (status : Byte) (vec : Addr) : (s.trapEntry ret status vec).nmiPending = s.nmiPending := by simp [State.trapEntry]
@[simp] theorem State.trapEntry_irqLine (s : State) (ret : Addr) (status : Byte) (vec : Addr) : (s.trapEntry ret status vec).irqLine = s.irqLine := by simp [State.trapEntry]
@[simp] theorem State.trapEntry_resetLine (s : State) (ret : Addr) (status : Byte) (vec : Addr) : (s.trapEntry ret status vec).resetLine = s.resetLine := by simp [State.trapEntry]
@[simp] theorem State.trapEntry_inputs (s : State) (ret : Addr) (status : Byte) (vec : Addr) : (s.trapEntry ret status vec).inputs = s.inputs := by simp [State.trapEntry]
@[simp] theorem State.trapEntry_params (s : State) (ret : Addr) (status : Byte) (vec : Addr) : (s.trapEntry ret status vec).params = s.params := by simp [State.trapEntry]
@[simp] theorem State.trapEntry_draws (s : State) (ret : Addr) (status : Byte) (vec : Addr) : (s.trapEntry ret status vec).draws = s.draws := by simp [State.trapEntry]

/-- Memory after a trap entry: return address high, return address low, status, downwards (60_exceptions.md R271). -/
theorem State.trapEntry_read (s : State) (ret : Addr) (status : Byte) (vec b : Addr) :
    (s.trapEntry ret status vec).read b =
      if b = stackAddr (s.sp - 1 - 1) then status else
        if b = stackAddr (s.sp - 1) then lo ret else if b = stackAddr s.sp then hi ret else s.read b := by
  simp [State.trapEntry, State.push_read, State.push16_read]

/-- A trap entry goes where the vector points; a vector outside the stack's page is not touched by the pushes. -/
theorem State.trapEntry_pc (s : State) (ret : Addr) (status : Byte) (vec : Addr) (h : hi vec ≠ 1)
    (h' : hi (vec + 1) ≠ 1) :
    (s.trapEntry ret status vec).pc = cat (s.read (vec + 1)) (s.read vec) := by
  have e : ∀ p, vec + 1#16 ≠ stackAddr p := ne_stackAddr h'
  simp [State.trapEntry, State.read16_eq, State.push_read, State.push16_read, ne_stackAddr h, e]

/-- BRK's status byte under each value of `BRK_PUSH_I` (43_control_flow.md R197). -/
theorem State.brkStatus_set (s : State) (h : s.params.brkPushI = .set) : s.brkStatus = pbyte true s.p ||| 0x04 := by
  simp [State.brkStatus, h]

theorem State.brkStatus_old (s : State) (h : s.params.brkPushI = .old) : s.brkStatus = pbyte true s.p := by
  simp [State.brkStatus, h]

/-! ### `returnFromTrap` -/

@[simp] theorem State.returnFromTrap_a (s : State) : s.returnFromTrap.a = s.a := by simp [State.returnFromTrap, State.pulled]
@[simp] theorem State.returnFromTrap_x (s : State) : s.returnFromTrap.x = s.x := by simp [State.returnFromTrap, State.pulled]
@[simp] theorem State.returnFromTrap_y (s : State) : s.returnFromTrap.y = s.y := by simp [State.returnFromTrap, State.pulled]
@[simp] theorem State.returnFromTrap_sp (s : State) : s.returnFromTrap.sp = s.sp + 1 + 1 + 1 := by simp [State.returnFromTrap, State.pulled]
@[simp] theorem State.returnFromTrap_p (s : State) : s.returnFromTrap.p = statusOfByte (s.read (stackAddr (s.sp + 1))) := by simp [State.returnFromTrap, State.pulled]
@[simp] theorem State.returnFromTrap_halted (s : State) : s.returnFromTrap.halted = s.halted := by simp [State.returnFromTrap, State.pulled]
@[simp] theorem State.returnFromTrap_nmiPending (s : State) : s.returnFromTrap.nmiPending = s.nmiPending := by simp [State.returnFromTrap, State.pulled]
@[simp] theorem State.returnFromTrap_irqLine (s : State) : s.returnFromTrap.irqLine = s.irqLine := by simp [State.returnFromTrap, State.pulled]
@[simp] theorem State.returnFromTrap_resetLine (s : State) : s.returnFromTrap.resetLine = s.resetLine := by simp [State.returnFromTrap, State.pulled]
@[simp] theorem State.returnFromTrap_inputs (s : State) : s.returnFromTrap.inputs = s.inputs := by simp [State.returnFromTrap, State.pulled]
@[simp] theorem State.returnFromTrap_mem (s : State) : s.returnFromTrap.mem = s.mem := by simp [State.returnFromTrap, State.pulled]
@[simp] theorem State.returnFromTrap_params (s : State) : s.returnFromTrap.params = s.params := by simp [State.returnFromTrap, State.pulled]
@[simp] theorem State.returnFromTrap_draws (s : State) : s.returnFromTrap.draws = s.draws := by simp [State.returnFromTrap, State.pulled]

@[simp] theorem State.returnFromTrap_read (s : State) (b : Addr) : s.returnFromTrap.read b = s.read b := by
  simp [State.returnFromTrap]

/-- The return from a trap continues at the address pulled after the status (43_control_flow.md R202). -/
@[simp] theorem State.returnFromTrap_pc (s : State) :
    s.returnFromTrap.pc = cat (s.read (stackAddr (s.sp + 1 + 1 + 1))) (s.read (stackAddr (s.sp + 1 + 1))) := by
  simp [State.returnFromTrap, State.pulled16_eq]

/-! ### `resetEvent` -/

@[simp] theorem State.resetEvent_pc (s : State) : s.resetEvent.pc = s.read16 vecReset := rfl
@[simp] theorem State.resetEvent_halted (s : State) : s.resetEvent.halted = false := rfl
@[simp] theorem State.resetEvent_nmiPending (s : State) : s.resetEvent.nmiPending = false := rfl
@[simp] theorem State.resetEvent_irqLine (s : State) : s.resetEvent.irqLine = s.irqLine := rfl
@[simp] theorem State.resetEvent_resetLine (s : State) : s.resetEvent.resetLine = s.resetLine := rfl
@[simp] theorem State.resetEvent_inputs (s : State) : s.resetEvent.inputs = s.inputs := rfl
@[simp] theorem State.resetEvent_mem (s : State) : s.resetEvent.mem = s.mem := rfl
@[simp] theorem State.resetEvent_params (s : State) : s.resetEvent.params = s.params := rfl
@[simp] theorem State.resetEvent_draws (s : State) : s.resetEvent.draws = s.draws + 1 := rfl

@[simp] theorem State.resetEvent_i (s : State) : s.resetEvent.p.i = true := rfl
@[simp] theorem State.resetEvent_read (s : State) (b : Addr) : s.resetEvent.read b = s.read b := rfl

/-! ### `sampleInputs` -/

/-- With no sample left the levels stay (log 13). -/
theorem State.sampleInputs_nil (s : State) (h : s.inputs = []) : s.sampleInputs = s := by
  simp [State.sampleInputs, h]

/-- With a sample left it is taken (60_exceptions.md R263). -/
theorem State.sampleInputs_cons (s : State) (t : PinSample) (rest : List PinSample) (h : s.inputs = t :: rest) :
    s.sampleInputs = { s with inputs := rest, irqLine := t.irq, resetLine := t.reset,
                              nmiPending := s.nmiPending || t.nmi } := by
  simp [State.sampleInputs, h]

@[simp] theorem State.sampleInputs_a (s : State) : s.sampleInputs.a = s.a := by
  unfold State.sampleInputs; split <;> rfl
@[simp] theorem State.sampleInputs_x (s : State) : s.sampleInputs.x = s.x := by
  unfold State.sampleInputs; split <;> rfl
@[simp] theorem State.sampleInputs_y (s : State) : s.sampleInputs.y = s.y := by
  unfold State.sampleInputs; split <;> rfl
@[simp] theorem State.sampleInputs_sp (s : State) : s.sampleInputs.sp = s.sp := by
  unfold State.sampleInputs; split <;> rfl
@[simp] theorem State.sampleInputs_pc (s : State) : s.sampleInputs.pc = s.pc := by
  unfold State.sampleInputs; split <;> rfl
@[simp] theorem State.sampleInputs_p (s : State) : s.sampleInputs.p = s.p := by
  unfold State.sampleInputs; split <;> rfl
@[simp] theorem State.sampleInputs_halted (s : State) : s.sampleInputs.halted = s.halted := by
  unfold State.sampleInputs; split <;> rfl
@[simp] theorem State.sampleInputs_mem (s : State) : s.sampleInputs.mem = s.mem := by
  unfold State.sampleInputs; split <;> rfl
@[simp] theorem State.sampleInputs_params (s : State) : s.sampleInputs.params = s.params := by
  unfold State.sampleInputs; split <;> rfl
@[simp] theorem State.sampleInputs_draws (s : State) : s.sampleInputs.draws = s.draws := by
  unfold State.sampleInputs; split <;> rfl
@[simp] theorem State.sampleInputs_read (s : State) (b : Addr) : s.sampleInputs.read b = s.read b := by
  simp [State.read]

/-! ### `modifyMem`, `modifyA`, `accumulate`, the draw of an SH store -/

@[simp] theorem State.modifyMem_a (s : State) (core : Byte → Status → Byte × Status) (ea : Addr) :
    (s.modifyMem core ea).a = s.a := rfl
@[simp] theorem State.modifyMem_x (s : State) (core : Byte → Status → Byte × Status) (ea : Addr) :
    (s.modifyMem core ea).x = s.x := rfl
@[simp] theorem State.modifyMem_y (s : State) (core : Byte → Status → Byte × Status) (ea : Addr) :
    (s.modifyMem core ea).y = s.y := rfl
@[simp] theorem State.modifyMem_sp (s : State) (core : Byte → Status → Byte × Status) (ea : Addr) :
    (s.modifyMem core ea).sp = s.sp := rfl
@[simp] theorem State.modifyMem_pc (s : State) (core : Byte → Status → Byte × Status) (ea : Addr) :
    (s.modifyMem core ea).pc = s.pc := rfl
@[simp] theorem State.modifyMem_halted (s : State) (core : Byte → Status → Byte × Status) (ea : Addr) :
    (s.modifyMem core ea).halted = s.halted := rfl
@[simp] theorem State.modifyMem_nmiPending (s : State) (core : Byte → Status → Byte × Status) (ea : Addr) :
    (s.modifyMem core ea).nmiPending = s.nmiPending := rfl
@[simp] theorem State.modifyMem_irqLine (s : State) (core : Byte → Status → Byte × Status) (ea : Addr) :
    (s.modifyMem core ea).irqLine = s.irqLine := rfl
@[simp] theorem State.modifyMem_resetLine (s : State) (core : Byte → Status → Byte × Status) (ea : Addr) :
    (s.modifyMem core ea).resetLine = s.resetLine := rfl
@[simp] theorem State.modifyMem_inputs (s : State) (core : Byte → Status → Byte × Status) (ea : Addr) :
    (s.modifyMem core ea).inputs = s.inputs := rfl
@[simp] theorem State.modifyMem_params (s : State) (core : Byte → Status → Byte × Status) (ea : Addr) :
    (s.modifyMem core ea).params = s.params := rfl
@[simp] theorem State.modifyMem_draws (s : State) (core : Byte → Status → Byte × Status) (ea : Addr) :
    (s.modifyMem core ea).draws = s.draws := rfl
@[simp] theorem State.modifyMem_p (s : State) (core : Byte → Status → Byte × Status) (ea : Addr) :
    (s.modifyMem core ea).p = (core (s.read ea) s.p).2 := rfl

/-- Memory after a read-modify-write: the one address holds what the core computed (30_encoding.md R98). -/
theorem State.modifyMem_read (s : State) (core : Byte → Status → Byte × Status) (ea b : Addr) :
    (s.modifyMem core ea).read b = if b = ea then (core (s.read ea) s.p).1 else s.read b := State.read_write s _ b _

@[simp] theorem State.accumulate_x (s : State) (r : Byte × Status) : (s.accumulate r).x = s.x := rfl
@[simp] theorem State.accumulate_y (s : State) (r : Byte × Status) : (s.accumulate r).y = s.y := rfl
@[simp] theorem State.accumulate_sp (s : State) (r : Byte × Status) : (s.accumulate r).sp = s.sp := rfl
@[simp] theorem State.accumulate_pc (s : State) (r : Byte × Status) : (s.accumulate r).pc = s.pc := rfl
@[simp] theorem State.accumulate_halted (s : State) (r : Byte × Status) : (s.accumulate r).halted = s.halted := rfl
@[simp] theorem State.accumulate_nmiPending (s : State) (r : Byte × Status) : (s.accumulate r).nmiPending = s.nmiPending := rfl
@[simp] theorem State.accumulate_irqLine (s : State) (r : Byte × Status) : (s.accumulate r).irqLine = s.irqLine := rfl
@[simp] theorem State.accumulate_resetLine (s : State) (r : Byte × Status) : (s.accumulate r).resetLine = s.resetLine := rfl
@[simp] theorem State.accumulate_inputs (s : State) (r : Byte × Status) : (s.accumulate r).inputs = s.inputs := rfl
@[simp] theorem State.accumulate_mem (s : State) (r : Byte × Status) : (s.accumulate r).mem = s.mem := rfl
@[simp] theorem State.accumulate_params (s : State) (r : Byte × Status) : (s.accumulate r).params = s.params := rfl
@[simp] theorem State.accumulate_draws (s : State) (r : Byte × Status) : (s.accumulate r).draws = s.draws := rfl
@[simp] theorem State.accumulate_a (s : State) (r : Byte × Status) : (s.accumulate r).a = r.1 := rfl
@[simp] theorem State.accumulate_p (s : State) (r : Byte × Status) : (s.accumulate r).p = r.2 := rfl
@[simp] theorem State.accumulate_read (s : State) (r : Byte × Status) (b : Addr) :
    (s.accumulate r).read b = s.read b := rfl

/-- An accumulator form is the core's answer accumulated. -/
theorem State.modifyA_eq (s : State) (core : Byte → Status → Byte × Status) :
    s.modifyA core = s.accumulate (core s.a s.p) := rfl

@[simp] theorem State.afterShDraw_a (s : State) : s.afterShDraw.a = s.a := by
  unfold State.afterShDraw; split <;> rfl
@[simp] theorem State.afterShDraw_x (s : State) : s.afterShDraw.x = s.x := by
  unfold State.afterShDraw; split <;> rfl
@[simp] theorem State.afterShDraw_y (s : State) : s.afterShDraw.y = s.y := by
  unfold State.afterShDraw; split <;> rfl
@[simp] theorem State.afterShDraw_sp (s : State) : s.afterShDraw.sp = s.sp := by
  unfold State.afterShDraw; split <;> rfl
@[simp] theorem State.afterShDraw_pc (s : State) : s.afterShDraw.pc = s.pc := by
  unfold State.afterShDraw; split <;> rfl
@[simp] theorem State.afterShDraw_p (s : State) : s.afterShDraw.p = s.p := by
  unfold State.afterShDraw; split <;> rfl
@[simp] theorem State.afterShDraw_halted (s : State) : s.afterShDraw.halted = s.halted := by
  unfold State.afterShDraw; split <;> rfl
@[simp] theorem State.afterShDraw_nmiPending (s : State) : s.afterShDraw.nmiPending = s.nmiPending := by
  unfold State.afterShDraw; split <;> rfl
@[simp] theorem State.afterShDraw_irqLine (s : State) : s.afterShDraw.irqLine = s.irqLine := by
  unfold State.afterShDraw; split <;> rfl
@[simp] theorem State.afterShDraw_resetLine (s : State) : s.afterShDraw.resetLine = s.resetLine := by
  unfold State.afterShDraw; split <;> rfl
@[simp] theorem State.afterShDraw_inputs (s : State) : s.afterShDraw.inputs = s.inputs := by
  unfold State.afterShDraw; split <;> rfl
@[simp] theorem State.afterShDraw_mem (s : State) : s.afterShDraw.mem = s.mem := by
  unfold State.afterShDraw; split <;> rfl
@[simp] theorem State.afterShDraw_params (s : State) : s.afterShDraw.params = s.params := by
  unfold State.afterShDraw; split <;> rfl
@[simp] theorem State.afterShDraw_read (s : State) (b : Addr) : s.afterShDraw.read b = s.read b := by
  simp [State.read]

/-- Without `SH_UNSTABLE` nothing is drawn (46_undoc_load_store.md R233). -/
theorem State.sh_stable (s : State) (h : s.params.shUnstable = false) :
    s.shDropped = false ∧ s.afterShDraw = s := by
  simp [State.shDropped, State.afterShDraw, h]

/-- A discarded read changes nothing (44_flag_nop_hlt.md R217). -/
@[simp] theorem State.readDiscarded_eq (s : State) (a : Addr) : s.readDiscarded a = s := rfl

/-! ### The canonical form of memory -/

theorem State.write_wf (s : State) (a : Addr) (v : Byte) (h : s.mem.wf = true) : (s.write a v).mem.wf = true :=
  Memory.wf_write a v h

theorem State.push_wf (s : State) (v : Byte) (h : s.mem.wf = true) : (s.push v).mem.wf = true := Memory.wf_write _ v h

theorem State.push16_wf (s : State) (w : Addr) (h : s.mem.wf = true) : (s.push16 w).mem.wf = true :=
  State.push_wf _ _ (State.push_wf s _ h)

theorem State.trapEntry_wf (s : State) (ret : Addr) (status : Byte) (vec : Addr) (h : s.mem.wf = true) :
    (s.trapEntry ret status vec).mem.wf = true := State.push_wf _ _ (State.push16_wf s _ h)

theorem State.modifyMem_wf (s : State) (core : Byte → Status → Byte × Status) (ea : Addr) (h : s.mem.wf = true) :
    (s.modifyMem core ea).mem.wf = true := Memory.wf_write _ _ h

/-! ### Fetching -/

@[simp] theorem State.bytesFrom_zero (s : State) (a : Addr) : s.bytesFrom a 0 = [] := rfl
@[simp] theorem State.bytesFrom_succ (s : State) (a : Addr) (n : Nat) :
    s.bytesFrom a (n + 1) = s.read a :: s.bytesFrom (a + 1) n := rfl

/-- The bytes from an address on are memory's: states with one memory have the same (30_encoding.md R80). -/
theorem State.bytesFrom_congr {s t : State} (h : t.mem = s.mem) (a : Addr) (n : Nat) :
    t.bytesFrom a n = s.bytesFrom a n := by
  induction n generalizing a with
  | zero => rfl
  | succ n ih => simp [ih, State.read, h]

/-- What is fetched depends on memory, pc and the parameters only, on no input level and no flag
(30_encoding.md R108). -/
theorem State.fetch_congr {s t : State} (hm : t.mem = s.mem) (hpc : t.pc = s.pc) (hp : t.params = s.params) :
    t.fetch = s.fetch := by
  simp [State.fetch, State.bytesFrom_congr hm, State.read, hm, hpc, hp]

end Sys2Proof.Machine
end

