-- ==== Sys2Proof/Laws/Families.lean ====
section
/-! SUPPORT. Everything each shared operation of the families can do, as one equation each; the SH store's value and
target as cases; and the boundary of a step, one lemma per outcome. -/

namespace Sys2Proof.Machine

/-! ### Loads, stores and transfers -/

theorem loadA_eq (v : Byte) (s : State) : loadA v s = { s with a := v, p := setNZ v s.p } := rfl
theorem loadX_eq (v : Byte) (s : State) : loadX v s = { s with x := v, p := setNZ v s.p } := rfl
theorem loadY_eq (v : Byte) (s : State) : loadY v s = { s with y := v, p := setNZ v s.p } := rfl
theorem storeA_eq (ea : Addr) (s : State) : storeA ea s = { s with mem := s.mem.write ea s.a } := rfl
theorem storeX_eq (ea : Addr) (s : State) : storeX ea s = { s with mem := s.mem.write ea s.x } := rfl
theorem storeY_eq (ea : Addr) (s : State) : storeY ea s = { s with mem := s.mem.write ea s.y } := rfl
theorem pullA_eq (s : State) :
    pullA s = { s with a := s.pulled, sp := s.sp + 1, p := setNZ s.pulled s.p } := rfl

/-! ### Arithmetic and logic -/

theorem addWithCarry_eq (m : Byte) (s : State) :
    addWithCarry m s = { s with a := (adcByMode s.a m s.p).1, p := (adcByMode s.a m s.p).2 } := rfl
theorem subtractWithBorrow_eq (m : Byte) (s : State) :
    subtractWithBorrow m s = { s with a := (sbcByMode s.a m s.p).1, p := (sbcByMode s.a m s.p).2 } := rfl
theorem andA_eq (m : Byte) (s : State) :
    andA m s = { s with a := s.a &&& m, p := setNZ (s.a &&& m) s.p } := rfl
theorem orA_eq (m : Byte) (s : State) :
    orA m s = { s with a := s.a ||| m, p := setNZ (s.a ||| m) s.p } := rfl
theorem xorA_eq (m : Byte) (s : State) :
    xorA m s = { s with a := s.a ^^^ m, p := setNZ (s.a ^^^ m) s.p } := rfl
theorem bitTest_eq (m : Byte) (s : State) : bitTest m s = { s with p := bitFlags s.a m s.p } := rfl
theorem compareA_eq (m : Byte) (s : State) : compareA m s = { s with p := compareFlags s.a m s.p } := rfl
theorem compareX_eq (m : Byte) (s : State) : compareX m s = { s with p := compareFlags s.x m s.p } := rfl
theorem compareY_eq (m : Byte) (s : State) : compareY m s = { s with p := compareFlags s.y m s.p } := rfl
theorem modifyMem_eq (s : State) (core : Byte → Status → Byte × Status) (ea : Addr) :
    s.modifyMem core ea =
      { s with mem := s.mem.write ea (core (s.read ea) s.p).1, p := (core (s.read ea) s.p).2 } := rfl
theorem modifyA_record (s : State) (core : Byte → Status → Byte × Status) :
    s.modifyA core = { s with a := (core s.a s.p).1, p := (core s.a s.p).2 } := rfl

/-! ### Control flow and HLT -/

theorem branch_eq (cond : Bool) (b1 : Byte) (s : State) :
    branch cond b1 s = { s with pc := if cond then targetRel b1 s.pc else s.pc } := by
  cases cond <;> rfl
theorem returnFromSubroutine_eq (s : State) :
    returnFromSubroutine s = { s with sp := s.sp + 1 + 1, pc := s.pulled16 + 1 } := rfl
theorem halt_eq (s : State) : halt s = { s with halted := true, pc := s.pc - 1 } := rfl

/-! ### Undocumented loads, stores and immediate operations -/

theorem loadAX_eq (m : Byte) (s : State) : loadAX m s = { s with a := m, x := m, p := setNZ m s.p } := rfl
theorem loadASX_eq (m : Byte) (s : State) :
    loadASX m s =
      { s with a := m &&& s.sp, x := m &&& s.sp, sp := m &&& s.sp, p := setNZ (m &&& s.sp) s.p } := rfl
theorem storeAX_eq (ea : Addr) (s : State) :
    storeAX ea s = { s with mem := s.mem.write ea (s.a &&& s.x) } := rfl
theorem andThenLsr_eq (imm : Byte) (s : State) :
    andThenLsr imm s = { s with a := (alrCore s.a imm s.p).1, p := (alrCore s.a imm s.p).2 } := rfl
theorem andThenCarry_eq (imm : Byte) (s : State) :
    andThenCarry imm s = { s with a := (ancCore s.a imm s.p).1, p := (ancCore s.a imm s.p).2 } := rfl
theorem andXUnstable_eq (imm : Byte) (s : State) :
    andXUnstable imm s =
      { s with a := aneResult s.aneMask s.a s.x imm, p := setNZ (aneResult s.aneMask s.a s.x imm) s.p,
               draws := s.draws + 1 } := rfl
theorem andThenRor_eq (imm : Byte) (s : State) :
    andThenRor imm s = { s with a := (arrByMode s.a imm s.p).1, p := (arrByMode s.a imm s.p).2 } := rfl
theorem orConstThenAnd_eq (imm : Byte) (s : State) :
    orConstThenAnd imm s =
      { s with a := lxaResult s.params.lxaConst s.a imm, x := lxaResult s.params.lxaConst s.a imm,
               p := setNZ (lxaResult s.params.lxaConst s.a imm) s.p } := rfl
theorem andXSubtract_eq (imm : Byte) (s : State) :
    andXSubtract imm s = { s with x := (s.a &&& s.x) - imm, p := compareFlags (s.a &&& s.x) imm s.p } := rfl

/-- The mask an ANE draws is one of the four of its rule, whatever is drawn (47_undoc_immediate.md R242). -/
theorem State.aneMask_mem (s : State) : s.aneMask ∈ ([0x11, 0x10, 0x01, 0x00] : List Byte) := by
  have h : ∀ k : Byte, k &&& 0x11 ∈ ([0x11, 0x10, 0x01, 0x00] : List Byte) := by decide +kernel
  exact h _

/-- An SH store changes memory at one address, and the draw counter (46_undoc_load_store.md R233). -/
theorem shStore_eq (reg : Byte) (base ea : Addr) (s : State) :
    shStore reg base ea s =
      { s with mem := s.mem.write (shTarget base ea (shValue s.shDropped reg base)) (shValue s.shDropped reg base),
               draws := if s.params.shUnstable then s.draws + 1 else s.draws } := by
  unfold shStore State.afterShDraw
  cases h : s.params.shUnstable <;> simp [h] <;> rfl

/-! ### The boundary of a step (30_encoding.md R108) -/

theorem step_reset (s : State) (h : s.sampleInputs.resetLine = true) :
    step s = .next s.sampleInputs.resetEvent := by
  simp [step, State.afterSampling, h]

theorem step_halted (s : State) (hr : s.sampleInputs.resetLine = false) (h : s.halted = true) :
    step s = .next s.sampleInputs := by
  simp [step, State.afterSampling, hr, h]

theorem step_nmi (s : State) (hr : s.sampleInputs.resetLine = false) (hh : s.halted = false)
    (h : s.sampleInputs.nmiPending = true) : step s = .next s.sampleInputs.nmiEntry := by
  simp [step, State.afterSampling, hr, hh, h]

theorem step_irq (s : State) (hr : s.sampleInputs.resetLine = false) (hh : s.halted = false)
    (hn : s.sampleInputs.nmiPending = false) (h : s.sampleInputs.irqAccepted = true) :
    step s = .next s.sampleInputs.irqEntry := by
  simp [step, State.afterSampling, hr, hh, hn, h]

theorem step_runInstruction (s : State) (hr : s.sampleInputs.resetLine = false) (hh : s.halted = false)
    (hn : s.sampleInputs.nmiPending = false) (hi : s.sampleInputs.irqAccepted = false) :
    step s = s.sampleInputs.runInstruction := by
  simp [step, State.afterSampling, hr, hh, hn, hi]

end Sys2Proof.Machine
end

