-- ==== Sys2Proof/Laws/PerInstr.lean ====
section
/-! SUPPORT. Statements for all instructions, one lemma per constructor. `EncodingShape`: an instruction is one opcode byte
and at most two operand bytes, and the opcode map gives its opcode exactly that length wherever the instruction is one
the parameters have (30_encoding.md R81, R82). -/

namespace Sys2Proof.Laws.EncodingShape

open Sys2Proof

/-- The statement of the family. -/
def Statement (i : Instr) : Prop :=
  ∃ op rest, encode i = op :: rest ∧ rest.length ≤ 2 ∧
    ∀ prm, i.wellFormed prm = true → opcodeLength prm op = rest.length + 1

theorem brk (b1 : Byte) : Statement (.brk b1) := ⟨_, _, rfl, Nat.le_of_ble_eq_true rfl, fun _ _ => rfl⟩
theorem oraIzx (b1 : Byte) : Statement (.oraIzx b1) := ⟨_, _, rfl, Nat.le_of_ble_eq_true rfl, fun _ _ => rfl⟩
theorem hlt02 : Statement .hlt02 := ⟨_, _, rfl, Nat.le_of_ble_eq_true rfl, fun _ _ => rfl⟩
theorem asoIzx (b1 : Byte) : Statement (.asoIzx b1) := ⟨_, _, rfl, Nat.le_of_ble_eq_true rfl, fun _ _ => rfl⟩
theorem nop04 (b1 : Byte) : Statement (.nop04 b1) := ⟨_, _, rfl, Nat.le_of_ble_eq_true rfl, fun _ _ => rfl⟩
theorem oraZp (b1 : Byte) : Statement (.oraZp b1) := ⟨_, _, rfl, Nat.le_of_ble_eq_true rfl, fun _ _ => rfl⟩
theorem aslZp (b1 : Byte) : Statement (.aslZp b1) := ⟨_, _, rfl, Nat.le_of_ble_eq_true rfl, fun _ _ => rfl⟩
theorem asoZp (b1 : Byte) : Statement (.asoZp b1) := ⟨_, _, rfl, Nat.le_of_ble_eq_true rfl, fun _ _ => rfl⟩
theorem php : Statement .php := ⟨_, _, rfl, Nat.le_of_ble_eq_true rfl, fun _ _ => rfl⟩
theorem oraImm (b1 : Byte) : Statement (.oraImm b1) := ⟨_, _, rfl, Nat.le_of_ble_eq_true rfl, fun _ _ => rfl⟩
theorem aslAcc : Statement .aslAcc := ⟨_, _, rfl, Nat.le_of_ble_eq_true rfl, fun _ _ => rfl⟩
theorem anc0B (b1 : Byte) : Statement (.anc0B b1) := ⟨_, _, rfl, Nat.le_of_ble_eq_true rfl, fun _ _ => rfl⟩
theorem nop0C (b1 b2 : Byte) : Statement (.nop0C b1 b2) := ⟨_, _, rfl, Nat.le_of_ble_eq_true rfl, fun _ _ => rfl⟩
theorem oraAbs (b1 b2 : Byte) : Statement (.oraAbs b1 b2) := ⟨_, _, rfl, Nat.le_of_ble_eq_true rfl, fun _ _ => rfl⟩
theorem aslAbs (b1 b2 : Byte) : Statement (.aslAbs b1 b2) := ⟨_, _, rfl, Nat.le_of_ble_eq_true rfl, fun _ _ => rfl⟩
theorem asoAbs (b1 b2 : Byte) : Statement (.asoAbs b1 b2) := ⟨_, _, rfl, Nat.le_of_ble_eq_true rfl, fun _ _ => rfl⟩
theorem bpl (b1 : Byte) : Statement (.bpl b1) := ⟨_, _, rfl, Nat.le_of_ble_eq_true rfl, fun _ _ => rfl⟩
theorem oraIzy (b1 : Byte) : Statement (.oraIzy b1) := ⟨_, _, rfl, Nat.le_of_ble_eq_true rfl, fun _ _ => rfl⟩
theorem hlt12 : Statement .hlt12 := ⟨_, _, rfl, Nat.le_of_ble_eq_true rfl, fun _ _ => rfl⟩
theorem asoIzy (b1 : Byte) : Statement (.asoIzy b1) := ⟨_, _, rfl, Nat.le_of_ble_eq_true rfl, fun _ _ => rfl⟩
theorem nop14 (b1 : Byte) : Statement (.nop14 b1) := ⟨_, _, rfl, Nat.le_of_ble_eq_true rfl, fun _ _ => rfl⟩
theorem oraZpx (b1 : Byte) : Statement (.oraZpx b1) := ⟨_, _, rfl, Nat.le_of_ble_eq_true rfl, fun _ _ => rfl⟩
theorem aslZpx (b1 : Byte) : Statement (.aslZpx b1) := ⟨_, _, rfl, Nat.le_of_ble_eq_true rfl, fun _ _ => rfl⟩
theorem asoZpx (b1 : Byte) : Statement (.asoZpx b1) := ⟨_, _, rfl, Nat.le_of_ble_eq_true rfl, fun _ _ => rfl⟩
theorem clc : Statement .clc := ⟨_, _, rfl, Nat.le_of_ble_eq_true rfl, fun _ _ => rfl⟩
theorem oraAby (b1 b2 : Byte) : Statement (.oraAby b1 b2) := ⟨_, _, rfl, Nat.le_of_ble_eq_true rfl, fun _ _ => rfl⟩
theorem nop1A : Statement .nop1A := ⟨_, _, rfl, Nat.le_of_ble_eq_true rfl, fun _ _ => rfl⟩
theorem asoAby (b1 b2 : Byte) : Statement (.asoAby b1 b2) := ⟨_, _, rfl, Nat.le_of_ble_eq_true rfl, fun _ _ => rfl⟩
theorem nop1C (b1 b2 : Byte) : Statement (.nop1C b1 b2) := ⟨_, _, rfl, Nat.le_of_ble_eq_true rfl, fun _ _ => rfl⟩
theorem oraAbx (b1 b2 : Byte) : Statement (.oraAbx b1 b2) := ⟨_, _, rfl, Nat.le_of_ble_eq_true rfl, fun _ _ => rfl⟩
theorem aslAbx (b1 b2 : Byte) : Statement (.aslAbx b1 b2) := ⟨_, _, rfl, Nat.le_of_ble_eq_true rfl, fun _ _ => rfl⟩
theorem asoAbx (b1 b2 : Byte) : Statement (.asoAbx b1 b2) := ⟨_, _, rfl, Nat.le_of_ble_eq_true rfl, fun _ _ => rfl⟩
theorem jsr (b1 b2 : Byte) : Statement (.jsr b1 b2) := ⟨_, _, rfl, Nat.le_of_ble_eq_true rfl, fun _ _ => rfl⟩
theorem andIzx (b1 : Byte) : Statement (.andIzx b1) := ⟨_, _, rfl, Nat.le_of_ble_eq_true rfl, fun _ _ => rfl⟩
theorem hlt22 : Statement .hlt22 := ⟨_, _, rfl, Nat.le_of_ble_eq_true rfl, fun _ _ => rfl⟩
theorem rlaIzx (b1 : Byte) : Statement (.rlaIzx b1) := ⟨_, _, rfl, Nat.le_of_ble_eq_true rfl, fun _ _ => rfl⟩
theorem bitZp (b1 : Byte) : Statement (.bitZp b1) := ⟨_, _, rfl, Nat.le_of_ble_eq_true rfl, fun _ _ => rfl⟩
theorem andZp (b1 : Byte) : Statement (.andZp b1) := ⟨_, _, rfl, Nat.le_of_ble_eq_true rfl, fun _ _ => rfl⟩
theorem rolZp (b1 : Byte) : Statement (.rolZp b1) := ⟨_, _, rfl, Nat.le_of_ble_eq_true rfl, fun _ _ => rfl⟩
theorem rlaZp (b1 : Byte) : Statement (.rlaZp b1) := ⟨_, _, rfl, Nat.le_of_ble_eq_true rfl, fun _ _ => rfl⟩
theorem plp : Statement .plp := ⟨_, _, rfl, Nat.le_of_ble_eq_true rfl, fun _ _ => rfl⟩
theorem andImm (b1 : Byte) : Statement (.andImm b1) := ⟨_, _, rfl, Nat.le_of_ble_eq_true rfl, fun _ _ => rfl⟩
theorem rolAcc : Statement .rolAcc := ⟨_, _, rfl, Nat.le_of_ble_eq_true rfl, fun _ _ => rfl⟩
theorem anc2B (b1 : Byte) : Statement (.anc2B b1) := ⟨_, _, rfl, Nat.le_of_ble_eq_true rfl, fun _ _ => rfl⟩
theorem bitAbs (b1 b2 : Byte) : Statement (.bitAbs b1 b2) := ⟨_, _, rfl, Nat.le_of_ble_eq_true rfl, fun _ _ => rfl⟩
theorem andAbs (b1 b2 : Byte) : Statement (.andAbs b1 b2) := ⟨_, _, rfl, Nat.le_of_ble_eq_true rfl, fun _ _ => rfl⟩
theorem rolAbs (b1 b2 : Byte) : Statement (.rolAbs b1 b2) := ⟨_, _, rfl, Nat.le_of_ble_eq_true rfl, fun _ _ => rfl⟩
theorem rlaAbs (b1 b2 : Byte) : Statement (.rlaAbs b1 b2) := ⟨_, _, rfl, Nat.le_of_ble_eq_true rfl, fun _ _ => rfl⟩
theorem bmi (b1 : Byte) : Statement (.bmi b1) := ⟨_, _, rfl, Nat.le_of_ble_eq_true rfl, fun _ _ => rfl⟩
theorem andIzy (b1 : Byte) : Statement (.andIzy b1) := ⟨_, _, rfl, Nat.le_of_ble_eq_true rfl, fun _ _ => rfl⟩
theorem hlt32 : Statement .hlt32 := ⟨_, _, rfl, Nat.le_of_ble_eq_true rfl, fun _ _ => rfl⟩
theorem rlaIzy (b1 : Byte) : Statement (.rlaIzy b1) := ⟨_, _, rfl, Nat.le_of_ble_eq_true rfl, fun _ _ => rfl⟩
theorem nop34 (b1 : Byte) : Statement (.nop34 b1) := ⟨_, _, rfl, Nat.le_of_ble_eq_true rfl, fun _ _ => rfl⟩
theorem andZpx (b1 : Byte) : Statement (.andZpx b1) := ⟨_, _, rfl, Nat.le_of_ble_eq_true rfl, fun _ _ => rfl⟩
theorem rolZpx (b1 : Byte) : Statement (.rolZpx b1) := ⟨_, _, rfl, Nat.le_of_ble_eq_true rfl, fun _ _ => rfl⟩
theorem rlaZpx (b1 : Byte) : Statement (.rlaZpx b1) := ⟨_, _, rfl, Nat.le_of_ble_eq_true rfl, fun _ _ => rfl⟩
theorem sec : Statement .sec := ⟨_, _, rfl, Nat.le_of_ble_eq_true rfl, fun _ _ => rfl⟩
theorem andAby (b1 b2 : Byte) : Statement (.andAby b1 b2) := ⟨_, _, rfl, Nat.le_of_ble_eq_true rfl, fun _ _ => rfl⟩
theorem nop3A : Statement .nop3A := ⟨_, _, rfl, Nat.le_of_ble_eq_true rfl, fun _ _ => rfl⟩
theorem rlaAby (b1 b2 : Byte) : Statement (.rlaAby b1 b2) := ⟨_, _, rfl, Nat.le_of_ble_eq_true rfl, fun _ _ => rfl⟩
theorem nop3C (b1 b2 : Byte) : Statement (.nop3C b1 b2) := ⟨_, _, rfl, Nat.le_of_ble_eq_true rfl, fun _ _ => rfl⟩
theorem andAbx (b1 b2 : Byte) : Statement (.andAbx b1 b2) := ⟨_, _, rfl, Nat.le_of_ble_eq_true rfl, fun _ _ => rfl⟩
theorem rolAbx (b1 b2 : Byte) : Statement (.rolAbx b1 b2) := ⟨_, _, rfl, Nat.le_of_ble_eq_true rfl, fun _ _ => rfl⟩
theorem rlaAbx (b1 b2 : Byte) : Statement (.rlaAbx b1 b2) := ⟨_, _, rfl, Nat.le_of_ble_eq_true rfl, fun _ _ => rfl⟩
theorem rti : Statement .rti := ⟨_, _, rfl, Nat.le_of_ble_eq_true rfl, fun _ _ => rfl⟩
theorem eorIzx (b1 : Byte) : Statement (.eorIzx b1) := ⟨_, _, rfl, Nat.le_of_ble_eq_true rfl, fun _ _ => rfl⟩
theorem hlt42 : Statement .hlt42 := ⟨_, _, rfl, Nat.le_of_ble_eq_true rfl, fun _ _ => rfl⟩
theorem lseIzx (b1 : Byte) : Statement (.lseIzx b1) := ⟨_, _, rfl, Nat.le_of_ble_eq_true rfl, fun _ _ => rfl⟩
theorem nop44 (b1 : Byte) : Statement (.nop44 b1) := ⟨_, _, rfl, Nat.le_of_ble_eq_true rfl, fun _ _ => rfl⟩
theorem eorZp (b1 : Byte) : Statement (.eorZp b1) := ⟨_, _, rfl, Nat.le_of_ble_eq_true rfl, fun _ _ => rfl⟩
theorem lsrZp (b1 : Byte) : Statement (.lsrZp b1) := ⟨_, _, rfl, Nat.le_of_ble_eq_true rfl, fun _ _ => rfl⟩
theorem lseZp (b1 : Byte) : Statement (.lseZp b1) := ⟨_, _, rfl, Nat.le_of_ble_eq_true rfl, fun _ _ => rfl⟩
theorem pha : Statement .pha := ⟨_, _, rfl, Nat.le_of_ble_eq_true rfl, fun _ _ => rfl⟩
theorem eorImm (b1 : Byte) : Statement (.eorImm b1) := ⟨_, _, rfl, Nat.le_of_ble_eq_true rfl, fun _ _ => rfl⟩
theorem lsrAcc : Statement .lsrAcc := ⟨_, _, rfl, Nat.le_of_ble_eq_true rfl, fun _ _ => rfl⟩
theorem alr (b1 : Byte) : Statement (.alr b1) := ⟨_, _, rfl, Nat.le_of_ble_eq_true rfl, fun _ _ => rfl⟩
theorem jmpAdr (b1 b2 : Byte) : Statement (.jmpAdr b1 b2) := ⟨_, _, rfl, Nat.le_of_ble_eq_true rfl, fun _ _ => rfl⟩
theorem eorAbs (b1 b2 : Byte) : Statement (.eorAbs b1 b2) := ⟨_, _, rfl, Nat.le_of_ble_eq_true rfl, fun _ _ => rfl⟩
theorem lsrAbs (b1 b2 : Byte) : Statement (.lsrAbs b1 b2) := ⟨_, _, rfl, Nat.le_of_ble_eq_true rfl, fun _ _ => rfl⟩
theorem lseAbs (b1 b2 : Byte) : Statement (.lseAbs b1 b2) := ⟨_, _, rfl, Nat.le_of_ble_eq_true rfl, fun _ _ => rfl⟩
theorem bvc (b1 : Byte) : Statement (.bvc b1) := ⟨_, _, rfl, Nat.le_of_ble_eq_true rfl, fun _ _ => rfl⟩
theorem eorIzy (b1 : Byte) : Statement (.eorIzy b1) := ⟨_, _, rfl, Nat.le_of_ble_eq_true rfl, fun _ _ => rfl⟩
theorem hlt52 : Statement .hlt52 := ⟨_, _, rfl, Nat.le_of_ble_eq_true rfl, fun _ _ => rfl⟩
theorem lseIzy (b1 : Byte) : Statement (.lseIzy b1) := ⟨_, _, rfl, Nat.le_of_ble_eq_true rfl, fun _ _ => rfl⟩
theorem nop54 (b1 : Byte) : Statement (.nop54 b1) := ⟨_, _, rfl, Nat.le_of_ble_eq_true rfl, fun _ _ => rfl⟩
theorem eorZpx (b1 : Byte) : Statement (.eorZpx b1) := ⟨_, _, rfl, Nat.le_of_ble_eq_true rfl, fun _ _ => rfl⟩
theorem lsrZpx (b1 : Byte) : Statement (.lsrZpx b1) := ⟨_, _, rfl, Nat.le_of_ble_eq_true rfl, fun _ _ => rfl⟩
theorem lseZpx (b1 : Byte) : Statement (.lseZpx b1) := ⟨_, _, rfl, Nat.le_of_ble_eq_true rfl, fun _ _ => rfl⟩
theorem cli : Statement .cli := ⟨_, _, rfl, Nat.le_of_ble_eq_true rfl, fun _ _ => rfl⟩
theorem eorAby (b1 b2 : Byte) : Statement (.eorAby b1 b2) := ⟨_, _, rfl, Nat.le_of_ble_eq_true rfl, fun _ _ => rfl⟩
theorem nop5A : Statement .nop5A := ⟨_, _, rfl, Nat.le_of_ble_eq_true rfl, fun _ _ => rfl⟩
theorem lseAby (b1 b2 : Byte) : Statement (.lseAby b1 b2) := ⟨_, _, rfl, Nat.le_of_ble_eq_true rfl, fun _ _ => rfl⟩
theorem nop5C (b1 b2 : Byte) : Statement (.nop5C b1 b2) := ⟨_, _, rfl, Nat.le_of_ble_eq_true rfl, fun _ _ => rfl⟩
theorem eorAbx (b1 b2 : Byte) : Statement (.eorAbx b1 b2) := ⟨_, _, rfl, Nat.le_of_ble_eq_true rfl, fun _ _ => rfl⟩
theorem lsrAbx (b1 b2 : Byte) : Statement (.lsrAbx b1 b2) := ⟨_, _, rfl, Nat.le_of_ble_eq_true rfl, fun _ _ => rfl⟩
theorem lseAbx (b1 b2 : Byte) : Statement (.lseAbx b1 b2) := ⟨_, _, rfl, Nat.le_of_ble_eq_true rfl, fun _ _ => rfl⟩
theorem rts : Statement .rts := ⟨_, _, rfl, Nat.le_of_ble_eq_true rfl, fun _ _ => rfl⟩
theorem adcIzx (b1 : Byte) : Statement (.adcIzx b1) := ⟨_, _, rfl, Nat.le_of_ble_eq_true rfl, fun _ _ => rfl⟩
theorem hlt62 : Statement .hlt62 := ⟨_, _, rfl, Nat.le_of_ble_eq_true rfl, fun _ _ => rfl⟩
theorem rraIzx (b1 : Byte) : Statement (.rraIzx b1) := ⟨_, _, rfl, Nat.le_of_ble_eq_true rfl, fun _ _ => rfl⟩
theorem nop64 (b1 : Byte) : Statement (.nop64 b1) := ⟨_, _, rfl, Nat.le_of_ble_eq_true rfl, fun _ _ => rfl⟩
theorem adcZp (b1 : Byte) : Statement (.adcZp b1) := ⟨_, _, rfl, Nat.le_of_ble_eq_true rfl, fun _ _ => rfl⟩
theorem rorZp (b1 : Byte) : Statement (.rorZp b1) := ⟨_, _, rfl, Nat.le_of_ble_eq_true rfl, fun _ _ => rfl⟩
theorem rraZp (b1 : Byte) : Statement (.rraZp b1) := ⟨_, _, rfl, Nat.le_of_ble_eq_true rfl, fun _ _ => rfl⟩
theorem pla : Statement .pla := ⟨_, _, rfl, Nat.le_of_ble_eq_true rfl, fun _ _ => rfl⟩
theorem adcImm (b1 : Byte) : Statement (.adcImm b1) := ⟨_, _, rfl, Nat.le_of_ble_eq_true rfl, fun _ _ => rfl⟩
theorem rorAcc : Statement .rorAcc := ⟨_, _, rfl, Nat.le_of_ble_eq_true rfl, fun _ _ => rfl⟩
theorem arr (b1 : Byte) : Statement (.arr b1) := ⟨_, _, rfl, Nat.le_of_ble_eq_true rfl, fun _ _ => rfl⟩
theorem jmpInd (b1 b2 : Byte) : Statement (.jmpInd b1 b2) := ⟨_, _, rfl, Nat.le_of_ble_eq_true rfl, fun _ _ => rfl⟩
theorem adcAbs (b1 b2 : Byte) : Statement (.adcAbs b1 b2) := ⟨_, _, rfl, Nat.le_of_ble_eq_true rfl, fun _ _ => rfl⟩
theorem rorAbs (b1 b2 : Byte) : Statement (.rorAbs b1 b2) := ⟨_, _, rfl, Nat.le_of_ble_eq_true rfl, fun _ _ => rfl⟩
theorem rraAbs (b1 b2 : Byte) : Statement (.rraAbs b1 b2) := ⟨_, _, rfl, Nat.le_of_ble_eq_true rfl, fun _ _ => rfl⟩
theorem bvs (b1 : Byte) : Statement (.bvs b1) := ⟨_, _, rfl, Nat.le_of_ble_eq_true rfl, fun _ _ => rfl⟩
theorem adcIzy (b1 : Byte) : Statement (.adcIzy b1) := ⟨_, _, rfl, Nat.le_of_ble_eq_true rfl, fun _ _ => rfl⟩
theorem hlt72 : Statement .hlt72 := ⟨_, _, rfl, Nat.le_of_ble_eq_true rfl, fun _ _ => rfl⟩
theorem rraIzy (b1 : Byte) : Statement (.rraIzy b1) := ⟨_, _, rfl, Nat.le_of_ble_eq_true rfl, fun _ _ => rfl⟩
theorem nop74 (b1 : Byte) : Statement (.nop74 b1) := ⟨_, _, rfl, Nat.le_of_ble_eq_true rfl, fun _ _ => rfl⟩
theorem adcZpx (b1 : Byte) : Statement (.adcZpx b1) := ⟨_, _, rfl, Nat.le_of_ble_eq_true rfl, fun _ _ => rfl⟩
theorem rorZpx (b1 : Byte) : Statement (.rorZpx b1) := ⟨_, _, rfl, Nat.le_of_ble_eq_true rfl, fun _ _ => rfl⟩
theorem rraZpx (b1 : Byte) : Statement (.rraZpx b1) := ⟨_, _, rfl, Nat.le_of_ble_eq_true rfl, fun _ _ => rfl⟩
theorem sei : Statement .sei := ⟨_, _, rfl, Nat.le_of_ble_eq_true rfl, fun _ _ => rfl⟩
theorem adcAby (b1 b2 : Byte) : Statement (.adcAby b1 b2) := ⟨_, _, rfl, Nat.le_of_ble_eq_true rfl, fun _ _ => rfl⟩
theorem nop7A : Statement .nop7A := ⟨_, _, rfl, Nat.le_of_ble_eq_true rfl, fun _ _ => rfl⟩
theorem rraAby (b1 b2 : Byte) : Statement (.rraAby b1 b2) := ⟨_, _, rfl, Nat.le_of_ble_eq_true rfl, fun _ _ => rfl⟩
theorem nop7C (b1 b2 : Byte) : Statement (.nop7C b1 b2) := ⟨_, _, rfl, Nat.le_of_ble_eq_true rfl, fun _ _ => rfl⟩
theorem adcAbx (b1 b2 : Byte) : Statement (.adcAbx b1 b2) := ⟨_, _, rfl, Nat.le_of_ble_eq_true rfl, fun _ _ => rfl⟩
theorem rorAbx (b1 b2 : Byte) : Statement (.rorAbx b1 b2) := ⟨_, _, rfl, Nat.le_of_ble_eq_true rfl, fun _ _ => rfl⟩
theorem rraAbx (b1 b2 : Byte) : Statement (.rraAbx b1 b2) := ⟨_, _, rfl, Nat.le_of_ble_eq_true rfl, fun _ _ => rfl⟩
theorem nop80 : Statement .nop80 := ⟨_, _, rfl, Nat.le_of_ble_eq_true rfl, fun ⟨_, o, j, _, _⟩ h => by cases o <;> cases j <;> first | rfl | cases h⟩
theorem nop80Imm (b1 : Byte) : Statement (.nop80Imm b1) := ⟨_, _, rfl, Nat.le_of_ble_eq_true rfl, fun ⟨_, o, j, _, _⟩ h => by cases o <;> cases j <;> first | rfl | cases h⟩
theorem staIzx (b1 : Byte) : Statement (.staIzx b1) := ⟨_, _, rfl, Nat.le_of_ble_eq_true rfl, fun _ _ => rfl⟩
theorem hlt82 : Statement .hlt82 := ⟨_, _, rfl, Nat.le_of_ble_eq_true rfl, fun ⟨_, o, j, _, _⟩ h => by cases o <;> cases j <;> first | rfl | cases h⟩
theorem nop82Imm (b1 : Byte) : Statement (.nop82Imm b1) := ⟨_, _, rfl, Nat.le_of_ble_eq_true rfl, fun ⟨_, o, j, _, _⟩ h => by cases o <;> cases j <;> first | rfl | cases h⟩
theorem saxIzx (b1 : Byte) : Statement (.saxIzx b1) := ⟨_, _, rfl, Nat.le_of_ble_eq_true rfl, fun _ _ => rfl⟩
theorem styZp (b1 : Byte) : Statement (.styZp b1) := ⟨_, _, rfl, Nat.le_of_ble_eq_true rfl, fun _ _ => rfl⟩
theorem staZp (b1 : Byte) : Statement (.staZp b1) := ⟨_, _, rfl, Nat.le_of_ble_eq_true rfl, fun _ _ => rfl⟩
theorem stxZp (b1 : Byte) : Statement (.stxZp b1) := ⟨_, _, rfl, Nat.le_of_ble_eq_true rfl, fun _ _ => rfl⟩
theorem saxZp (b1 : Byte) : Statement (.saxZp b1) := ⟨_, _, rfl, Nat.le_of_ble_eq_true rfl, fun _ _ => rfl⟩
theorem dey : Statement .dey := ⟨_, _, rfl, Nat.le_of_ble_eq_true rfl, fun _ _ => rfl⟩
theorem nop89 (b1 : Byte) : Statement (.nop89 b1) := ⟨_, _, rfl, Nat.le_of_ble_eq_true rfl, fun _ _ => rfl⟩
theorem txa : Statement .txa := ⟨_, _, rfl, Nat.le_of_ble_eq_true rfl, fun _ _ => rfl⟩
theorem ane (b1 : Byte) : Statement (.ane b1) := ⟨_, _, rfl, Nat.le_of_ble_eq_true rfl, fun _ _ => rfl⟩
theorem styAbs (b1 b2 : Byte) : Statement (.styAbs b1 b2) := ⟨_, _, rfl, Nat.le_of_ble_eq_true rfl, fun _ _ => rfl⟩
theorem staAbs (b1 b2 : Byte) : Statement (.staAbs b1 b2) := ⟨_, _, rfl, Nat.le_of_ble_eq_true rfl, fun _ _ => rfl⟩
theorem stxAbs (b1 b2 : Byte) : Statement (.stxAbs b1 b2) := ⟨_, _, rfl, Nat.le_of_ble_eq_true rfl, fun _ _ => rfl⟩
theorem saxAbs (b1 b2 : Byte) : Statement (.saxAbs b1 b2) := ⟨_, _, rfl, Nat.le_of_ble_eq_true rfl, fun _ _ => rfl⟩
theorem bcc (b1 : Byte) : Statement (.bcc b1) := ⟨_, _, rfl, Nat.le_of_ble_eq_true rfl, fun _ _ => rfl⟩
theorem staIzy (b1 : Byte) : Statement (.staIzy b1) := ⟨_, _, rfl, Nat.le_of_ble_eq_true rfl, fun _ _ => rfl⟩
theorem hlt92 : Statement .hlt92 := ⟨_, _, rfl, Nat.le_of_ble_eq_true rfl, fun _ _ => rfl⟩
theorem shaIzy (b1 : Byte) : Statement (.shaIzy b1) := ⟨_, _, rfl, Nat.le_of_ble_eq_true rfl, fun _ _ => rfl⟩
theorem styZpx (b1 : Byte) : Statement (.styZpx b1) := ⟨_, _, rfl, Nat.le_of_ble_eq_true rfl, fun _ _ => rfl⟩
theorem staZpx (b1 : Byte) : Statement (.staZpx b1) := ⟨_, _, rfl, Nat.le_of_ble_eq_true rfl, fun _ _ => rfl⟩
theorem stxZpy (b1 : Byte) : Statement (.stxZpy b1) := ⟨_, _, rfl, Nat.le_of_ble_eq_true rfl, fun _ _ => rfl⟩
theorem saxZpy (b1 : Byte) : Statement (.saxZpy b1) := ⟨_, _, rfl, Nat.le_of_ble_eq_true rfl, fun _ _ => rfl⟩
theorem tya : Statement .tya := ⟨_, _, rfl, Nat.le_of_ble_eq_true rfl, fun _ _ => rfl⟩
theorem staAby (b1 b2 : Byte) : Statement (.staAby b1 b2) := ⟨_, _, rfl, Nat.le_of_ble_eq_true rfl, fun _ _ => rfl⟩
theorem txs : Statement .txs := ⟨_, _, rfl, Nat.le_of_ble_eq_true rfl, fun _ _ => rfl⟩
theorem shs (b1 b2 : Byte) : Statement (.shs b1 b2) := ⟨_, _, rfl, Nat.le_of_ble_eq_true rfl, fun _ _ => rfl⟩
theorem shy (b1 b2 : Byte) : Statement (.shy b1 b2) := ⟨_, _, rfl, Nat.le_of_ble_eq_true rfl, fun _ _ => rfl⟩
theorem staAbx (b1 b2 : Byte) : Statement (.staAbx b1 b2) := ⟨_, _, rfl, Nat.le_of_ble_eq_true rfl, fun _ _ => rfl⟩
theorem shx (b1 b2 : Byte) : Statement (.shx b1 b2) := ⟨_, _, rfl, Nat.le_of_ble_eq_true rfl, fun _ _ => rfl⟩
theorem shaAby (b1 b2 : Byte) : Statement (.shaAby b1 b2) := ⟨_, _, rfl, Nat.le_of_ble_eq_true rfl, fun _ _ => rfl⟩
theorem ldyImm (b1 : Byte) : Statement (.ldyImm b1) := ⟨_, _, rfl, Nat.le_of_ble_eq_true rfl, fun _ _ => rfl⟩
theorem ldaIzx (b1 : Byte) : Statement (.ldaIzx b1) := ⟨_, _, rfl, Nat.le_of_ble_eq_true rfl, fun _ _ => rfl⟩
theorem ldxImm (b1 : Byte) : Statement (.ldxImm b1) := ⟨_, _, rfl, Nat.le_of_ble_eq_true rfl, fun _ _ => rfl⟩
theorem laxIzx (b1 : Byte) : Statement (.laxIzx b1) := ⟨_, _, rfl, Nat.le_of_ble_eq_true rfl, fun _ _ => rfl⟩
theorem ldyZp (b1 : Byte) : Statement (.ldyZp b1) := ⟨_, _, rfl, Nat.le_of_ble_eq_true rfl, fun _ _ => rfl⟩
theorem ldaZp (b1 : Byte) : Statement (.ldaZp b1) := ⟨_, _, rfl, Nat.le_of_ble_eq_true rfl, fun _ _ => rfl⟩
theorem ldxZp (b1 : Byte) : Statement (.ldxZp b1) := ⟨_, _, rfl, Nat.le_of_ble_eq_true rfl, fun _ _ => rfl⟩
theorem laxZp (b1 : Byte) : Statement (.laxZp b1) := ⟨_, _, rfl, Nat.le_of_ble_eq_true rfl, fun _ _ => rfl⟩
theorem tay : Statement .tay := ⟨_, _, rfl, Nat.le_of_ble_eq_true rfl, fun _ _ => rfl⟩
theorem ldaImm (b1 : Byte) : Statement (.ldaImm b1) := ⟨_, _, rfl, Nat.le_of_ble_eq_true rfl, fun _ _ => rfl⟩
theorem tax : Statement .tax := ⟨_, _, rfl, Nat.le_of_ble_eq_true rfl, fun _ _ => rfl⟩
theorem lxa (b1 : Byte) : Statement (.lxa b1) := ⟨_, _, rfl, Nat.le_of_ble_eq_true rfl, fun _ _ => rfl⟩
theorem ldyAbs (b1 b2 : Byte) : Statement (.ldyAbs b1 b2) := ⟨_, _, rfl, Nat.le_of_ble_eq_true rfl, fun _ _ => rfl⟩
theorem ldaAbs (b1 b2 : Byte) : Statement (.ldaAbs b1 b2) := ⟨_, _, rfl, Nat.le_of_ble_eq_true rfl, fun _ _ => rfl⟩
theorem ldxAbs (b1 b2 : Byte) : Statement (.ldxAbs b1 b2) := ⟨_, _, rfl, Nat.le_of_ble_eq_true rfl, fun _ _ => rfl⟩
theorem laxAbs (b1 b2 : Byte) : Statement (.laxAbs b1 b2) := ⟨_, _, rfl, Nat.le_of_ble_eq_true rfl, fun _ _ => rfl⟩
theorem bcs (b1 : Byte) : Statement (.bcs b1) := ⟨_, _, rfl, Nat.le_of_ble_eq_true rfl, fun _ _ => rfl⟩
theorem ldaIzy (b1 : Byte) : Statement (.ldaIzy b1) := ⟨_, _, rfl, Nat.le_of_ble_eq_true rfl, fun _ _ => rfl⟩
theorem hltB2 : Statement .hltB2 := ⟨_, _, rfl, Nat.le_of_ble_eq_true rfl, fun _ _ => rfl⟩
theorem laxIzy (b1 : Byte) : Statement (.laxIzy b1) := ⟨_, _, rfl, Nat.le_of_ble_eq_true rfl, fun _ _ => rfl⟩
theorem ldyZpx (b1 : Byte) : Statement (.ldyZpx b1) := ⟨_, _, rfl, Nat.le_of_ble_eq_true rfl, fun _ _ => rfl⟩
theorem ldaZpx (b1 : Byte) : Statement (.ldaZpx b1) := ⟨_, _, rfl, Nat.le_of_ble_eq_true rfl, fun _ _ => rfl⟩
theorem ldxZpy (b1 : Byte) : Statement (.ldxZpy b1) := ⟨_, _, rfl, Nat.le_of_ble_eq_true rfl, fun _ _ => rfl⟩
theorem laxZpy (b1 : Byte) : Statement (.laxZpy b1) := ⟨_, _, rfl, Nat.le_of_ble_eq_true rfl, fun _ _ => rfl⟩
theorem clv : Statement .clv := ⟨_, _, rfl, Nat.le_of_ble_eq_true rfl, fun _ _ => rfl⟩
theorem ldaAby (b1 b2 : Byte) : Statement (.ldaAby b1 b2) := ⟨_, _, rfl, Nat.le_of_ble_eq_true rfl, fun _ _ => rfl⟩
theorem tsx : Statement .tsx := ⟨_, _, rfl, Nat.le_of_ble_eq_true rfl, fun _ _ => rfl⟩
theorem las (b1 b2 : Byte) : Statement (.las b1 b2) := ⟨_, _, rfl, Nat.le_of_ble_eq_true rfl, fun _ _ => rfl⟩
theorem ldyAbx (b1 b2 : Byte) : Statement (.ldyAbx b1 b2) := ⟨_, _, rfl, Nat.le_of_ble_eq_true rfl, fun _ _ => rfl⟩
theorem ldaAbx (b1 b2 : Byte) : Statement (.ldaAbx b1 b2) := ⟨_, _, rfl, Nat.le_of_ble_eq_true rfl, fun _ _ => rfl⟩
theorem ldxAby (b1 b2 : Byte) : Statement (.ldxAby b1 b2) := ⟨_, _, rfl, Nat.le_of_ble_eq_true rfl, fun _ _ => rfl⟩
theorem laxAby (b1 b2 : Byte) : Statement (.laxAby b1 b2) := ⟨_, _, rfl, Nat.le_of_ble_eq_true rfl, fun _ _ => rfl⟩
theorem cpyImm (b1 : Byte) : Statement (.cpyImm b1) := ⟨_, _, rfl, Nat.le_of_ble_eq_true rfl, fun _ _ => rfl⟩
theorem cmpIzx (b1 : Byte) : Statement (.cmpIzx b1) := ⟨_, _, rfl, Nat.le_of_ble_eq_true rfl, fun _ _ => rfl⟩
theorem hltC2 : Statement .hltC2 := ⟨_, _, rfl, Nat.le_of_ble_eq_true rfl, fun ⟨_, o, j, _, _⟩ h => by cases o <;> cases j <;> first | rfl | cases h⟩
theorem nopC2Imm (b1 : Byte) : Statement (.nopC2Imm b1) := ⟨_, _, rfl, Nat.le_of_ble_eq_true rfl, fun ⟨_, o, j, _, _⟩ h => by cases o <;> cases j <;> first | rfl | cases h⟩
theorem dcmIzx (b1 : Byte) : Statement (.dcmIzx b1) := ⟨_, _, rfl, Nat.le_of_ble_eq_true rfl, fun _ _ => rfl⟩
theorem cpyZp (b1 : Byte) : Statement (.cpyZp b1) := ⟨_, _, rfl, Nat.le_of_ble_eq_true rfl, fun _ _ => rfl⟩
theorem cmpZp (b1 : Byte) : Statement (.cmpZp b1) := ⟨_, _, rfl, Nat.le_of_ble_eq_true rfl, fun _ _ => rfl⟩
theorem decZp (b1 : Byte) : Statement (.decZp b1) := ⟨_, _, rfl, Nat.le_of_ble_eq_true rfl, fun _ _ => rfl⟩
theorem dcmZp (b1 : Byte) : Statement (.dcmZp b1) := ⟨_, _, rfl, Nat.le_of_ble_eq_true rfl, fun _ _ => rfl⟩
theorem iny : Statement .iny := ⟨_, _, rfl, Nat.le_of_ble_eq_true rfl, fun _ _ => rfl⟩
theorem cmpImm (b1 : Byte) : Statement (.cmpImm b1) := ⟨_, _, rfl, Nat.le_of_ble_eq_true rfl, fun _ _ => rfl⟩
theorem dex : Statement .dex := ⟨_, _, rfl, Nat.le_of_ble_eq_true rfl, fun _ _ => rfl⟩
theorem sbx (b1 : Byte) : Statement (.sbx b1) := ⟨_, _, rfl, Nat.le_of_ble_eq_true rfl, fun _ _ => rfl⟩
theorem cpyAbs (b1 b2 : Byte) : Statement (.cpyAbs b1 b2) := ⟨_, _, rfl, Nat.le_of_ble_eq_true rfl, fun _ _ => rfl⟩
theorem cmpAbs (b1 b2 : Byte) : Statement (.cmpAbs b1 b2) := ⟨_, _, rfl, Nat.le_of_ble_eq_true rfl, fun _ _ => rfl⟩
theorem decAbs (b1 b2 : Byte) : Statement (.decAbs b1 b2) := ⟨_, _, rfl, Nat.le_of_ble_eq_true rfl, fun _ _ => rfl⟩
theorem dcmAbs (b1 b2 : Byte) : Statement (.dcmAbs b1 b2) := ⟨_, _, rfl, Nat.le_of_ble_eq_true rfl, fun _ _ => rfl⟩
theorem bne (b1 : Byte) : Statement (.bne b1) := ⟨_, _, rfl, Nat.le_of_ble_eq_true rfl, fun _ _ => rfl⟩
theorem cmpIzy (b1 : Byte) : Statement (.cmpIzy b1) := ⟨_, _, rfl, Nat.le_of_ble_eq_true rfl, fun _ _ => rfl⟩
theorem hltD2 : Statement .hltD2 := ⟨_, _, rfl, Nat.le_of_ble_eq_true rfl, fun _ _ => rfl⟩
theorem dcmIzy (b1 : Byte) : Statement (.dcmIzy b1) := ⟨_, _, rfl, Nat.le_of_ble_eq_true rfl, fun _ _ => rfl⟩
theorem nopD4 (b1 : Byte) : Statement (.nopD4 b1) := ⟨_, _, rfl, Nat.le_of_ble_eq_true rfl, fun _ _ => rfl⟩
theorem cmpZpx (b1 : Byte) : Statement (.cmpZpx b1) := ⟨_, _, rfl, Nat.le_of_ble_eq_true rfl, fun _ _ => rfl⟩
theorem decZpx (b1 : Byte) : Statement (.decZpx b1) := ⟨_, _, rfl, Nat.le_of_ble_eq_true rfl, fun _ _ => rfl⟩
theorem dcmZpx (b1 : Byte) : Statement (.dcmZpx b1) := ⟨_, _, rfl, Nat.le_of_ble_eq_true rfl, fun _ _ => rfl⟩
theorem cld : Statement .cld := ⟨_, _, rfl, Nat.le_of_ble_eq_true rfl, fun _ _ => rfl⟩
theorem cmpAby (b1 b2 : Byte) : Statement (.cmpAby b1 b2) := ⟨_, _, rfl, Nat.le_of_ble_eq_true rfl, fun _ _ => rfl⟩
theorem nopDA : Statement .nopDA := ⟨_, _, rfl, Nat.le_of_ble_eq_true rfl, fun _ _ => rfl⟩
theorem dcmAby (b1 b2 : Byte) : Statement (.dcmAby b1 b2) := ⟨_, _, rfl, Nat.le_of_ble_eq_true rfl, fun _ _ => rfl⟩
theorem nopDC (b1 b2 : Byte) : Statement (.nopDC b1 b2) := ⟨_, _, rfl, Nat.le_of_ble_eq_true rfl, fun _ _ => rfl⟩
theorem cmpAbx (b1 b2 : Byte) : Statement (.cmpAbx b1 b2) := ⟨_, _, rfl, Nat.le_of_ble_eq_true rfl, fun _ _ => rfl⟩
theorem decAbx (b1 b2 : Byte) : Statement (.decAbx b1 b2) := ⟨_, _, rfl, Nat.le_of_ble_eq_true rfl, fun _ _ => rfl⟩
theorem dcmAbx (b1 b2 : Byte) : Statement (.dcmAbx b1 b2) := ⟨_, _, rfl, Nat.le_of_ble_eq_true rfl, fun _ _ => rfl⟩
theorem cpxImm (b1 : Byte) : Statement (.cpxImm b1) := ⟨_, _, rfl, Nat.le_of_ble_eq_true rfl, fun _ _ => rfl⟩
theorem sbcIzx (b1 : Byte) : Statement (.sbcIzx b1) := ⟨_, _, rfl, Nat.le_of_ble_eq_true rfl, fun _ _ => rfl⟩
theorem hltE2 : Statement .hltE2 := ⟨_, _, rfl, Nat.le_of_ble_eq_true rfl, fun ⟨_, o, j, _, _⟩ h => by cases o <;> cases j <;> first | rfl | cases h⟩
theorem nopE2Imm (b1 : Byte) : Statement (.nopE2Imm b1) := ⟨_, _, rfl, Nat.le_of_ble_eq_true rfl, fun ⟨_, o, j, _, _⟩ h => by cases o <;> cases j <;> first | rfl | cases h⟩
theorem insIzx (b1 : Byte) : Statement (.insIzx b1) := ⟨_, _, rfl, Nat.le_of_ble_eq_true rfl, fun _ _ => rfl⟩
theorem cpxZp (b1 : Byte) : Statement (.cpxZp b1) := ⟨_, _, rfl, Nat.le_of_ble_eq_true rfl, fun _ _ => rfl⟩
theorem sbcZp (b1 : Byte) : Statement (.sbcZp b1) := ⟨_, _, rfl, Nat.le_of_ble_eq_true rfl, fun _ _ => rfl⟩
theorem incZp (b1 : Byte) : Statement (.incZp b1) := ⟨_, _, rfl, Nat.le_of_ble_eq_true rfl, fun _ _ => rfl⟩
theorem insZp (b1 : Byte) : Statement (.insZp b1) := ⟨_, _, rfl, Nat.le_of_ble_eq_true rfl, fun _ _ => rfl⟩
theorem inx : Statement .inx := ⟨_, _, rfl, Nat.le_of_ble_eq_true rfl, fun _ _ => rfl⟩
theorem sbcImm (b1 : Byte) : Statement (.sbcImm b1) := ⟨_, _, rfl, Nat.le_of_ble_eq_true rfl, fun _ _ => rfl⟩
theorem nop : Statement .nop := ⟨_, _, rfl, Nat.le_of_ble_eq_true rfl, fun _ _ => rfl⟩
theorem sbcImmEB (b1 : Byte) : Statement (.sbcImmEB b1) := ⟨_, _, rfl, Nat.le_of_ble_eq_true rfl, fun _ _ => rfl⟩
theorem cpxAbs (b1 b2 : Byte) : Statement (.cpxAbs b1 b2) := ⟨_, _, rfl, Nat.le_of_ble_eq_true rfl, fun _ _ => rfl⟩
theorem sbcAbs (b1 b2 : Byte) : Statement (.sbcAbs b1 b2) := ⟨_, _, rfl, Nat.le_of_ble_eq_true rfl, fun _ _ => rfl⟩
theorem incAbs (b1 b2 : Byte) : Statement (.incAbs b1 b2) := ⟨_, _, rfl, Nat.le_of_ble_eq_true rfl, fun _ _ => rfl⟩
theorem insAbs (b1 b2 : Byte) : Statement (.insAbs b1 b2) := ⟨_, _, rfl, Nat.le_of_ble_eq_true rfl, fun _ _ => rfl⟩
theorem beq (b1 : Byte) : Statement (.beq b1) := ⟨_, _, rfl, Nat.le_of_ble_eq_true rfl, fun _ _ => rfl⟩
theorem sbcIzy (b1 : Byte) : Statement (.sbcIzy b1) := ⟨_, _, rfl, Nat.le_of_ble_eq_true rfl, fun _ _ => rfl⟩
theorem hltF2 : Statement .hltF2 := ⟨_, _, rfl, Nat.le_of_ble_eq_true rfl, fun _ _ => rfl⟩
theorem insIzy (b1 : Byte) : Statement (.insIzy b1) := ⟨_, _, rfl, Nat.le_of_ble_eq_true rfl, fun _ _ => rfl⟩
theorem nopF4 (b1 : Byte) : Statement (.nopF4 b1) := ⟨_, _, rfl, Nat.le_of_ble_eq_true rfl, fun _ _ => rfl⟩
theorem sbcZpx (b1 : Byte) : Statement (.sbcZpx b1) := ⟨_, _, rfl, Nat.le_of_ble_eq_true rfl, fun _ _ => rfl⟩
theorem incZpx (b1 : Byte) : Statement (.incZpx b1) := ⟨_, _, rfl, Nat.le_of_ble_eq_true rfl, fun _ _ => rfl⟩
theorem insZpx (b1 : Byte) : Statement (.insZpx b1) := ⟨_, _, rfl, Nat.le_of_ble_eq_true rfl, fun _ _ => rfl⟩
theorem sed : Statement .sed := ⟨_, _, rfl, Nat.le_of_ble_eq_true rfl, fun _ _ => rfl⟩
theorem sbcAby (b1 b2 : Byte) : Statement (.sbcAby b1 b2) := ⟨_, _, rfl, Nat.le_of_ble_eq_true rfl, fun _ _ => rfl⟩
theorem nopFA : Statement .nopFA := ⟨_, _, rfl, Nat.le_of_ble_eq_true rfl, fun _ _ => rfl⟩
theorem insAby (b1 b2 : Byte) : Statement (.insAby b1 b2) := ⟨_, _, rfl, Nat.le_of_ble_eq_true rfl, fun _ _ => rfl⟩
theorem nopFC (b1 b2 : Byte) : Statement (.nopFC b1 b2) := ⟨_, _, rfl, Nat.le_of_ble_eq_true rfl, fun _ _ => rfl⟩
theorem sbcAbx (b1 b2 : Byte) : Statement (.sbcAbx b1 b2) := ⟨_, _, rfl, Nat.le_of_ble_eq_true rfl, fun _ _ => rfl⟩
theorem incAbx (b1 b2 : Byte) : Statement (.incAbx b1 b2) := ⟨_, _, rfl, Nat.le_of_ble_eq_true rfl, fun _ _ => rfl⟩
theorem insAbx (b1 b2 : Byte) : Statement (.insAbx b1 b2) := ⟨_, _, rfl, Nat.le_of_ble_eq_true rfl, fun _ _ => rfl⟩

end Sys2Proof.Laws.EncodingShape
end

