-- ==== Sys2Proof/Tests/Slice0.lean ====
section
/-! SUPPORT. The model's own tests. Decoding: every opcode's word, written out from the opcode map of 30_encoding.md R99 with
the operand bytes 0x12 and 0x34. Well-formedness: each check refuses an ill-formed term. Single steps: vectors of
95_test_vectors.md (the name of a test is the vector's id and the constructor). Witnesses: for every statement with
hypotheses, a concrete state that meets them, for each clause. -/

namespace Sys2Proof.Tests

open Sys2Proof Sys2Proof.Machine Sys2Proof.Claims

/-! ### Decoding (30_encoding.md R99): row by row of the opcode map -/

/-- What the decoder reads from an opcode followed by the bytes 0x12, 0x34. -/
def reads (prm : Params) (op : Byte) : Option (Instr × List Byte) :=
  match decode prm [op, 0x12, 0x34] with
  | .instr i rest => some (i, rest)
  | .rejected _ => none

theorem test_decode_row_0 :
    ([0x00, 0x01, 0x02, 0x03, 0x04, 0x05, 0x06, 0x07, 0x08, 0x09, 0x0A, 0x0B, 0x0C, 0x0D, 0x0E, 0x0F] : List Byte).map (reads Params.nominal) =
     [some (.brk 0x12, [0x34]), some (.oraIzx 0x12, [0x34]), some (.hlt02, [0x12, 0x34]),
      some (.asoIzx 0x12, [0x34]), some (.nop04 0x12, [0x34]), some (.oraZp 0x12, [0x34]),
      some (.aslZp 0x12, [0x34]), some (.asoZp 0x12, [0x34]), some (.php, [0x12, 0x34]),
      some (.oraImm 0x12, [0x34]), some (.aslAcc, [0x12, 0x34]), some (.anc0B 0x12, [0x34]),
      some (.nop0C 0x12 0x34, []), some (.oraAbs 0x12 0x34, []), some (.aslAbs 0x12 0x34, []),
      some (.asoAbs 0x12 0x34, [])] := by
  decide

theorem test_decode_row_1 :
    ([0x10, 0x11, 0x12, 0x13, 0x14, 0x15, 0x16, 0x17, 0x18, 0x19, 0x1A, 0x1B, 0x1C, 0x1D, 0x1E, 0x1F] : List Byte).map (reads Params.nominal) =
     [some (.bpl 0x12, [0x34]), some (.oraIzy 0x12, [0x34]), some (.hlt12, [0x12, 0x34]),
      some (.asoIzy 0x12, [0x34]), some (.nop14 0x12, [0x34]), some (.oraZpx 0x12, [0x34]),
      some (.aslZpx 0x12, [0x34]), some (.asoZpx 0x12, [0x34]), some (.clc, [0x12, 0x34]),
      some (.oraAby 0x12 0x34, []), some (.nop1A, [0x12, 0x34]), some (.asoAby 0x12 0x34, []),
      some (.nop1C 0x12 0x34, []), some (.oraAbx 0x12 0x34, []), some (.aslAbx 0x12 0x34, []),
      some (.asoAbx 0x12 0x34, [])] := by
  decide

theorem test_decode_row_2 :
    ([0x20, 0x21, 0x22, 0x23, 0x24, 0x25, 0x26, 0x27, 0x28, 0x29, 0x2A, 0x2B, 0x2C, 0x2D, 0x2E, 0x2F] : List Byte).map (reads Params.nominal) =
     [some (.jsr 0x12 0x34, []), some (.andIzx 0x12, [0x34]), some (.hlt22, [0x12, 0x34]),
      some (.rlaIzx 0x12, [0x34]), some (.bitZp 0x12, [0x34]), some (.andZp 0x12, [0x34]),
      some (.rolZp 0x12, [0x34]), some (.rlaZp 0x12, [0x34]), some (.plp, [0x12, 0x34]),
      some (.andImm 0x12, [0x34]), some (.rolAcc, [0x12, 0x34]), some (.anc2B 0x12, [0x34]),
      some (.bitAbs 0x12 0x34, []), some (.andAbs 0x12 0x34, []), some (.rolAbs 0x12 0x34, []),
      some (.rlaAbs 0x12 0x34, [])] := by
  decide

theorem test_decode_row_3 :
    ([0x30, 0x31, 0x32, 0x33, 0x34, 0x35, 0x36, 0x37, 0x38, 0x39, 0x3A, 0x3B, 0x3C, 0x3D, 0x3E, 0x3F] : List Byte).map (reads Params.nominal) =
     [some (.bmi 0x12, [0x34]), some (.andIzy 0x12, [0x34]), some (.hlt32, [0x12, 0x34]),
      some (.rlaIzy 0x12, [0x34]), some (.nop34 0x12, [0x34]), some (.andZpx 0x12, [0x34]),
      some (.rolZpx 0x12, [0x34]), some (.rlaZpx 0x12, [0x34]), some (.sec, [0x12, 0x34]),
      some (.andAby 0x12 0x34, []), some (.nop3A, [0x12, 0x34]), some (.rlaAby 0x12 0x34, []),
      some (.nop3C 0x12 0x34, []), some (.andAbx 0x12 0x34, []), some (.rolAbx 0x12 0x34, []),
      some (.rlaAbx 0x12 0x34, [])] := by
  decide

theorem test_decode_row_4 :
    ([0x40, 0x41, 0x42, 0x43, 0x44, 0x45, 0x46, 0x47, 0x48, 0x49, 0x4A, 0x4B, 0x4C, 0x4D, 0x4E, 0x4F] : List Byte).map (reads Params.nominal) =
     [some (.rti, [0x12, 0x34]), some (.eorIzx 0x12, [0x34]), some (.hlt42, [0x12, 0x34]),
      some (.lseIzx 0x12, [0x34]), some (.nop44 0x12, [0x34]), some (.eorZp 0x12, [0x34]),
      some (.lsrZp 0x12, [0x34]), some (.lseZp 0x12, [0x34]), some (.pha, [0x12, 0x34]),
      some (.eorImm 0x12, [0x34]), some (.lsrAcc, [0x12, 0x34]), some (.alr 0x12, [0x34]),
      some (.jmpAdr 0x12 0x34, []), some (.eorAbs 0x12 0x34, []), some (.lsrAbs 0x12 0x34, []),
      some (.lseAbs 0x12 0x34, [])] := by
  decide

theorem test_decode_row_5 :
    ([0x50, 0x51, 0x52, 0x53, 0x54, 0x55, 0x56, 0x57, 0x58, 0x59, 0x5A, 0x5B, 0x5C, 0x5D, 0x5E, 0x5F] : List Byte).map (reads Params.nominal) =
     [some (.bvc 0x12, [0x34]), some (.eorIzy 0x12, [0x34]), some (.hlt52, [0x12, 0x34]),
      some (.lseIzy 0x12, [0x34]), some (.nop54 0x12, [0x34]), some (.eorZpx 0x12, [0x34]),
      some (.lsrZpx 0x12, [0x34]), some (.lseZpx 0x12, [0x34]), some (.cli, [0x12, 0x34]),
      some (.eorAby 0x12 0x34, []), some (.nop5A, [0x12, 0x34]), some (.lseAby 0x12 0x34, []),
      some (.nop5C 0x12 0x34, []), some (.eorAbx 0x12 0x34, []), some (.lsrAbx 0x12 0x34, []),
      some (.lseAbx 0x12 0x34, [])] := by
  decide

theorem test_decode_row_6 :
    ([0x60, 0x61, 0x62, 0x63, 0x64, 0x65, 0x66, 0x67, 0x68, 0x69, 0x6A, 0x6B, 0x6C, 0x6D, 0x6E, 0x6F] : List Byte).map (reads Params.nominal) =
     [some (.rts, [0x12, 0x34]), some (.adcIzx 0x12, [0x34]), some (.hlt62, [0x12, 0x34]),
      some (.rraIzx 0x12, [0x34]), some (.nop64 0x12, [0x34]), some (.adcZp 0x12, [0x34]),
      some (.rorZp 0x12, [0x34]), some (.rraZp 0x12, [0x34]), some (.pla, [0x12, 0x34]),
      some (.adcImm 0x12, [0x34]), some (.rorAcc, [0x12, 0x34]), some (.arr 0x12, [0x34]),
      some (.jmpInd 0x12 0x34, []), some (.adcAbs 0x12 0x34, []), some (.rorAbs 0x12 0x34, []),
      some (.rraAbs 0x12 0x34, [])] := by
  decide

theorem test_decode_row_7 :
    ([0x70, 0x71, 0x72, 0x73, 0x74, 0x75, 0x76, 0x77, 0x78, 0x79, 0x7A, 0x7B, 0x7C, 0x7D, 0x7E, 0x7F] : List Byte).map (reads Params.nominal) =
     [some (.bvs 0x12, [0x34]), some (.adcIzy 0x12, [0x34]), some (.hlt72, [0x12, 0x34]),
      some (.rraIzy 0x12, [0x34]), some (.nop74 0x12, [0x34]), some (.adcZpx 0x12, [0x34]),
      some (.rorZpx 0x12, [0x34]), some (.rraZpx 0x12, [0x34]), some (.sei, [0x12, 0x34]),
      some (.adcAby 0x12 0x34, []), some (.nop7A, [0x12, 0x34]), some (.rraAby 0x12 0x34, []),
      some (.nop7C 0x12 0x34, []), some (.adcAbx 0x12 0x34, []), some (.rorAbx 0x12 0x34, []),
      some (.rraAbx 0x12 0x34, [])] := by
  decide

theorem test_decode_row_8 :
    ([0x80, 0x81, 0x82, 0x83, 0x84, 0x85, 0x86, 0x87, 0x88, 0x89, 0x8A, 0x8B, 0x8C, 0x8D, 0x8E, 0x8F] : List Byte).map (reads Params.nominal) =
     [some (.nop80, [0x12, 0x34]), some (.staIzx 0x12, [0x34]), some (.hlt82, [0x12, 0x34]),
      some (.saxIzx 0x12, [0x34]), some (.styZp 0x12, [0x34]), some (.staZp 0x12, [0x34]),
      some (.stxZp 0x12, [0x34]), some (.saxZp 0x12, [0x34]), some (.dey, [0x12, 0x34]),
      some (.nop89 0x12, [0x34]), some (.txa, [0x12, 0x34]), some (.ane 0x12, [0x34]),
      some (.styAbs 0x12 0x34, []), some (.staAbs 0x12 0x34, []), some (.stxAbs 0x12 0x34, []),
      some (.saxAbs 0x12 0x34, [])] := by
  decide

theorem test_decode_row_9 :
    ([0x90, 0x91, 0x92, 0x93, 0x94, 0x95, 0x96, 0x97, 0x98, 0x99, 0x9A, 0x9B, 0x9C, 0x9D, 0x9E, 0x9F] : List Byte).map (reads Params.nominal) =
     [some (.bcc 0x12, [0x34]), some (.staIzy 0x12, [0x34]), some (.hlt92, [0x12, 0x34]),
      some (.shaIzy 0x12, [0x34]), some (.styZpx 0x12, [0x34]), some (.staZpx 0x12, [0x34]),
      some (.stxZpy 0x12, [0x34]), some (.saxZpy 0x12, [0x34]), some (.tya, [0x12, 0x34]),
      some (.staAby 0x12 0x34, []), some (.txs, [0x12, 0x34]), some (.shs 0x12 0x34, []),
      some (.shy 0x12 0x34, []), some (.staAbx 0x12 0x34, []), some (.shx 0x12 0x34, []),
      some (.shaAby 0x12 0x34, [])] := by
  decide

theorem test_decode_row_A :
    ([0xA0, 0xA1, 0xA2, 0xA3, 0xA4, 0xA5, 0xA6, 0xA7, 0xA8, 0xA9, 0xAA, 0xAB, 0xAC, 0xAD, 0xAE, 0xAF] : List Byte).map (reads Params.nominal) =
     [some (.ldyImm 0x12, [0x34]), some (.ldaIzx 0x12, [0x34]), some (.ldxImm 0x12, [0x34]),
      some (.laxIzx 0x12, [0x34]), some (.ldyZp 0x12, [0x34]), some (.ldaZp 0x12, [0x34]),
      some (.ldxZp 0x12, [0x34]), some (.laxZp 0x12, [0x34]), some (.tay, [0x12, 0x34]),
      some (.ldaImm 0x12, [0x34]), some (.tax, [0x12, 0x34]), some (.lxa 0x12, [0x34]),
      some (.ldyAbs 0x12 0x34, []), some (.ldaAbs 0x12 0x34, []), some (.ldxAbs 0x12 0x34, []),
      some (.laxAbs 0x12 0x34, [])] := by
  decide

theorem test_decode_row_B :
    ([0xB0, 0xB1, 0xB2, 0xB3, 0xB4, 0xB5, 0xB6, 0xB7, 0xB8, 0xB9, 0xBA, 0xBB, 0xBC, 0xBD, 0xBE, 0xBF] : List Byte).map (reads Params.nominal) =
     [some (.bcs 0x12, [0x34]), some (.ldaIzy 0x12, [0x34]), some (.hltB2, [0x12, 0x34]),
      some (.laxIzy 0x12, [0x34]), some (.ldyZpx 0x12, [0x34]), some (.ldaZpx 0x12, [0x34]),
      some (.ldxZpy 0x12, [0x34]), some (.laxZpy 0x12, [0x34]), some (.clv, [0x12, 0x34]),
      some (.ldaAby 0x12 0x34, []), some (.tsx, [0x12, 0x34]), some (.las 0x12 0x34, []),
      some (.ldyAbx 0x12 0x34, []), some (.ldaAbx 0x12 0x34, []), some (.ldxAby 0x12 0x34, []),
      some (.laxAby 0x12 0x34, [])] := by
  decide

theorem test_decode_row_C :
    ([0xC0, 0xC1, 0xC2, 0xC3, 0xC4, 0xC5, 0xC6, 0xC7, 0xC8, 0xC9, 0xCA, 0xCB, 0xCC, 0xCD, 0xCE, 0xCF] : List Byte).map (reads Params.nominal) =
     [some (.cpyImm 0x12, [0x34]), some (.cmpIzx 0x12, [0x34]), some (.hltC2, [0x12, 0x34]),
      some (.dcmIzx 0x12, [0x34]), some (.cpyZp 0x12, [0x34]), some (.cmpZp 0x12, [0x34]),
      some (.decZp 0x12, [0x34]), some (.dcmZp 0x12, [0x34]), some (.iny, [0x12, 0x34]),
      some (.cmpImm 0x12, [0x34]), some (.dex, [0x12, 0x34]), some (.sbx 0x12, [0x34]),
      some (.cpyAbs 0x12 0x34, []), some (.cmpAbs 0x12 0x34, []), some (.decAbs 0x12 0x34, []),
      some (.dcmAbs 0x12 0x34, [])] := by
  decide

theorem test_decode_row_D :
    ([0xD0, 0xD1, 0xD2, 0xD3, 0xD4, 0xD5, 0xD6, 0xD7, 0xD8, 0xD9, 0xDA, 0xDB, 0xDC, 0xDD, 0xDE, 0xDF] : List Byte).map (reads Params.nominal) =
     [some (.bne 0x12, [0x34]), some (.cmpIzy 0x12, [0x34]), some (.hltD2, [0x12, 0x34]),
      some (.dcmIzy 0x12, [0x34]), some (.nopD4 0x12, [0x34]), some (.cmpZpx 0x12, [0x34]),
      some (.decZpx 0x12, [0x34]), some (.dcmZpx 0x12, [0x34]), some (.cld, [0x12, 0x34]),
      some (.cmpAby 0x12 0x34, []), some (.nopDA, [0x12, 0x34]), some (.dcmAby 0x12 0x34, []),
      some (.nopDC 0x12 0x34, []), some (.cmpAbx 0x12 0x34, []), some (.decAbx 0x12 0x34, []),
      some (.dcmAbx 0x12 0x34, [])] := by
  decide

theorem test_decode_row_E :
    ([0xE0, 0xE1, 0xE2, 0xE3, 0xE4, 0xE5, 0xE6, 0xE7, 0xE8, 0xE9, 0xEA, 0xEB, 0xEC, 0xED, 0xEE, 0xEF] : List Byte).map (reads Params.nominal) =
     [some (.cpxImm 0x12, [0x34]), some (.sbcIzx 0x12, [0x34]), some (.hltE2, [0x12, 0x34]),
      some (.insIzx 0x12, [0x34]), some (.cpxZp 0x12, [0x34]), some (.sbcZp 0x12, [0x34]),
      some (.incZp 0x12, [0x34]), some (.insZp 0x12, [0x34]), some (.inx, [0x12, 0x34]),
      some (.sbcImm 0x12, [0x34]), some (.nop, [0x12, 0x34]), some (.sbcImmEB 0x12, [0x34]),
      some (.cpxAbs 0x12 0x34, []), some (.sbcAbs 0x12 0x34, []), some (.incAbs 0x12 0x34, []),
      some (.insAbs 0x12 0x34, [])] := by
  decide

theorem test_decode_row_F :
    ([0xF0, 0xF1, 0xF2, 0xF3, 0xF4, 0xF5, 0xF6, 0xF7, 0xF8, 0xF9, 0xFA, 0xFB, 0xFC, 0xFD, 0xFE, 0xFF] : List Byte).map (reads Params.nominal) =
     [some (.beq 0x12, [0x34]), some (.sbcIzy 0x12, [0x34]), some (.hltF2, [0x12, 0x34]),
      some (.insIzy 0x12, [0x34]), some (.nopF4 0x12, [0x34]), some (.sbcZpx 0x12, [0x34]),
      some (.incZpx 0x12, [0x34]), some (.insZpx 0x12, [0x34]), some (.sed, [0x12, 0x34]),
      some (.sbcAby 0x12 0x34, []), some (.nopFA, [0x12, 0x34]), some (.insAby 0x12 0x34, []),
      some (.nopFC 0x12 0x34, []), some (.sbcAbx 0x12 0x34, []), some (.incAbx 0x12 0x34, []),
      some (.insAbx 0x12 0x34, [])] := by
  decide

/-- The second forms of 0x80, 0x82, 0xC2, 0xE2, each under its parameter (30_encoding.md R102, R103). -/
theorem test_decode_second_forms :
    reads { Params.nominal with opc80Form := .immediate2 } 0x80 = some (.nop80Imm 0x12, [0x34]) ∧
    reads { Params.nominal with jam3Form := .nopImmediate2 } 0x82 = some (.nop82Imm 0x12, [0x34]) ∧
    reads { Params.nominal with jam3Form := .nopImmediate2 } 0xC2 = some (.nopC2Imm 0x12, [0x34]) ∧
    reads { Params.nominal with jam3Form := .nopImmediate2 } 0xE2 = some (.nopE2Imm 0x12, [0x34]) := by
  decide

/-- Missing bytes are rejected by name. -/
theorem test_decode_rejects :
    decode Params.nominal [] = .rejected .noBytes ∧
    decode Params.nominal [0xA9] = .rejected (.truncated 0xA9) ∧
    decode Params.nominal [0x8D, 0x00] = .rejected (.truncated 0x8D) := by
  decide

/-- The table's bit numbering: the first byte is bits 7..0, the second 15..8; bits above `nbits` are zero. -/
theorem test_decodeTableWord :
    decodeTableWord 24 0x12348D = some (.staAbs 0x34 0x12) ∧ decodeTableWord 8 0x12348D = some (.staAbs 0x00 0x00) ∧
    decodeTableWord 16 0x12A9 = some (.ldaImm 0x12) ∧ decodeTableWord 8 0xEA = some .nop := by
  decide

/-! ### Well-formedness: an ill-formed term for each check -/

theorem test_illformed :
    Instr.wellFormed { Params.nominal with opc80Form := .immediate2 } .nop80 = false ∧
    Instr.wellFormed Params.nominal (.nop80Imm 0) = false ∧
    Instr.wellFormed { Params.nominal with jam3Form := .nopImmediate2 } .hlt82 = false ∧
    Instr.wellFormed { Params.nominal with jam3Form := .nopImmediate2 } .hltC2 = false ∧
    Instr.wellFormed { Params.nominal with jam3Form := .nopImmediate2 } .hltE2 = false ∧
    Instr.wellFormed Params.nominal (.nop82Imm 0) = false ∧
    Instr.wellFormed Params.nominal (.nopC2Imm 0) = false ∧
    Instr.wellFormed Params.nominal (.nopE2Imm 0) = false := by
  decide

/-! ### Single steps: the vectors of 95_test_vectors.md -/

/-- A memory with bytes at addresses. -/
def cells (m : Memory) (bytes : List (Addr × Byte)) : Memory := bytes.foldl (fun m c => m.write c.1 c.2) m

/-- Consecutive bytes from an address. -/
def block (m : Memory) : Addr → List Byte → Memory
  | _, [] => m
  | a, b :: rest => block (m.write a b) (a + 1) rest

/-- A start state: A, X, Y, S, pc, the flags as a byte, the code at pc, other bytes of memory. -/
def start (a x y sp : Byte) (pc : Addr) (p : Byte) (code : List Byte) (data : List (Addr × Byte)) : State :=
  { State.reset with a := a, x := x, y := y, sp := sp, pc := pc, p := statusOfByte p
                     mem := block (cells Memory.empty data) pc code }

/-- One step leads to the registers, the flags as a byte, halted or not, and exactly the bytes written. -/
def lands (s : State) (a x y sp : Byte) (pc : Addr) (p : Byte) (halted : Bool) (written : List (Addr × Byte)) : Bool :=
  match step s with
  | .next t =>
    t.a == a && t.x == x && t.y == y && t.sp == sp && t.pc == pc && pbyte false t.p == p && t.halted == halted &&
      t.mem == cells s.mem written
  | _ => false

theorem test_T4_ldaZpx : lands (start 0x00 0x20 0x00 0xFF 0x0200 0x20 [0xB5, 0xF0] [(0x0010, 0x42)])
    0x42 0x20 0x00 0xFF 0x0202 0x20 false [] = true := by decide
theorem test_T6_ldaAby : lands (start 0x00 0x00 0x02 0xFF 0x0200 0x20 [0xB9, 0xFF, 0xFF] [(0x0001, 0x77)])
    0x77 0x00 0x02 0xFF 0x0203 0x20 false [] = true := by decide
theorem test_T7_ldaIzx : lands (start 0x00 0x01 0x00 0xFF 0x0200 0x20 [0xA1, 0xFE] [(0x0000, 0x12), (0x00FF, 0x34), (0x1234, 0xAB)])
    0xAB 0x01 0x00 0xFF 0x0202 0xA0 false [] = true := by decide
theorem test_T8_ldaIzy : lands (start 0x00 0x00 0x10 0xFF 0x0200 0x20 [0xB1, 0x20] [(0x0020, 0xF8), (0x0021, 0x12), (0x1308, 0x5A)])
    0x5A 0x00 0x10 0xFF 0x0202 0x20 false [] = true := by decide
theorem test_T9_ldxImm : lands (start 0x00 0x09 0x00 0xFF 0x0200 0x20 [0xA2, 0x00] [])
    0x00 0x00 0x00 0xFF 0x0202 0x22 false [] = true := by decide
theorem test_T10_ldxZpy : lands (start 0x00 0x00 0x20 0xFF 0x0200 0x20 [0xB6, 0xF0] [(0x0010, 0x81)])
    0x00 0x81 0x20 0xFF 0x0202 0xA0 false [] = true := by decide
theorem test_T12_ldyImm : lands (start 0x00 0x00 0x00 0xFF 0x0200 0x20 [0xA0, 0xFF] [])
    0x00 0x00 0xFF 0xFF 0x0202 0xA0 false [] = true := by decide
theorem test_T13_ldyZpx : lands (start 0x00 0x01 0x03 0xFF 0x0200 0x20 [0xB4, 0x10] [(0x0011, 0x00)])
    0x00 0x01 0x00 0xFF 0x0202 0x22 false [] = true := by decide
theorem test_T15_staAbx : lands (start 0x12 0x01 0x00 0xFF 0x0200 0x20 [0x9D, 0xFF, 0x30] [])
    0x12 0x01 0x00 0xFF 0x0203 0x20 false [(0x3100, 0x12)] = true := by decide
theorem test_T16_staIzy : lands (start 0xEE 0x00 0xFF 0xFF 0x0200 0x20 [0x91, 0x20] [(0x0020, 0x01), (0x0021, 0x40)])
    0xEE 0x00 0xFF 0xFF 0x0202 0x20 false [(0x4100, 0xEE)] = true := by decide
theorem test_T17_staIzx : lands (start 0x77 0xE0 0x00 0xFF 0x0200 0x20 [0x81, 0x20] [(0x0000, 0x00), (0x0001, 0x60)])
    0x77 0xE0 0x00 0xFF 0x0202 0x20 false [(0x6000, 0x77)] = true := by decide
theorem test_T18_stxZp : lands (start 0x00 0xAB 0x00 0xFF 0x0200 0x20 [0x86, 0x10] [])
    0x00 0xAB 0x00 0xFF 0x0202 0x20 false [(0x0010, 0xAB)] = true := by decide
theorem test_T19_stxZpy : lands (start 0x00 0xCD 0x02 0xFF 0x0200 0x20 [0x96, 0xFF] [])
    0x00 0xCD 0x02 0xFF 0x0202 0x20 false [(0x0001, 0xCD)] = true := by decide
theorem test_T20_styAbs : lands (start 0x00 0x00 0x11 0xFF 0x0200 0x20 [0x8C, 0x00, 0x30] [])
    0x00 0x00 0x11 0xFF 0x0203 0x20 false [(0x3000, 0x11)] = true := by decide
theorem test_T21_styZpx : lands (start 0x00 0xF0 0x22 0xFF 0x0200 0x20 [0x94, 0x10] [])
    0x00 0xF0 0x22 0xFF 0x0202 0x20 false [(0x0000, 0x22)] = true := by decide
theorem test_T22_tax : lands (start 0x80 0x00 0x00 0xFF 0x0200 0x20 [0xAA] [])
    0x80 0x80 0x00 0xFF 0x0201 0xA0 false [] = true := by decide
theorem test_T23_tay : lands (start 0x00 0x00 0x05 0xFF 0x0200 0x20 [0xA8] [])
    0x00 0x00 0x00 0xFF 0x0201 0x22 false [] = true := by decide
theorem test_T24_tsx : lands (start 0x00 0x00 0x00 0xFF 0x0200 0x20 [0xBA] [])
    0x00 0xFF 0x00 0xFF 0x0201 0xA0 false [] = true := by decide
theorem test_T25_tsx : lands (start 0x00 0x01 0x00 0x00 0x0200 0x20 [0xBA] [])
    0x00 0x00 0x00 0x00 0x0201 0x22 false [] = true := by decide
theorem test_T26_txa : lands (start 0x00 0x7F 0x00 0xFF 0x0200 0x20 [0x8A] [])
    0x7F 0x7F 0x00 0xFF 0x0201 0x20 false [] = true := by decide
theorem test_T27_txs : lands (start 0x00 0x00 0x00 0xFF 0x0200 0xA0 [0x9A] [])
    0x00 0x00 0x00 0x00 0x0201 0xA0 false [] = true := by decide
theorem test_T28_tya : lands (start 0x00 0x00 0x80 0xFF 0x0200 0x20 [0x98] [])
    0x80 0x00 0x80 0xFF 0x0201 0xA0 false [] = true := by decide
theorem test_T29_pha : lands (start 0x42 0x00 0x00 0xFF 0x0200 0x20 [0x48] [])
    0x42 0x00 0x00 0xFE 0x0201 0x20 false [(0x01FF, 0x42)] = true := by decide
theorem test_T30_pha : lands (start 0x42 0x00 0x00 0x00 0x0200 0x20 [0x48] [])
    0x42 0x00 0x00 0xFF 0x0201 0x20 false [(0x0100, 0x42)] = true := by decide
theorem test_T31_php : lands (start 0x00 0x00 0x00 0xFF 0x0200 0xA1 [0x08] [])
    0x00 0x00 0x00 0xFE 0x0201 0xA1 false [(0x01FF, 0xB1)] = true := by decide
theorem test_T32_php : lands (start 0x00 0x00 0x00 0xFF 0x0200 0x6E [0x08] [])
    0x00 0x00 0x00 0xFE 0x0201 0x6E false [(0x01FF, 0x7E)] = true := by decide
theorem test_T33_pla : lands (start 0x00 0x00 0x00 0xFE 0x0200 0x20 [0x68] [(0x01FF, 0x80)])
    0x80 0x00 0x00 0xFF 0x0201 0xA0 false [] = true := by decide
theorem test_T34_pla : lands (start 0x01 0x00 0x00 0xFF 0x0200 0x20 [0x68] [(0x0100, 0x00)])
    0x00 0x00 0x00 0x00 0x0201 0x22 false [] = true := by decide
theorem test_T35_plp : lands (start 0x00 0x00 0x00 0xFE 0x0200 0x20 [0x28] [(0x01FF, 0xFF)])
    0x00 0x00 0x00 0xFF 0x0201 0xEF false [] = true := by decide
theorem test_T36_plp : lands (start 0x00 0x00 0x00 0xFE 0x0200 0xEF [0x28] [(0x01FF, 0x00)])
    0x00 0x00 0x00 0xFF 0x0201 0x20 false [] = true := by decide
theorem test_A2_adcImm : lands (start 0xD0 0x00 0x00 0xFF 0x0200 0x20 [0x69, 0x90] [])
    0x60 0x00 0x00 0xFF 0x0202 0x61 false [] = true := by decide
theorem test_A6_adcImm : lands (start 0x58 0x00 0x00 0xFF 0x0200 0x29 [0x69, 0x46] [])
    0x05 0x00 0x00 0xFF 0x0202 0xE9 false [] = true := by decide
theorem test_A8_adcImm : lands (start 0x0F 0x00 0x00 0xFF 0x0200 0x28 [0x69, 0x0F] [])
    0x14 0x00 0x00 0xFF 0x0202 0x28 false [] = true := by decide
theorem test_A10_adcAbs : lands (start 0x10 0x00 0x00 0xFF 0x0200 0x20 [0x6D, 0x00, 0x30] [(0x3000, 0x22)])
    0x32 0x00 0x00 0xFF 0x0203 0x20 false [] = true := by decide
theorem test_A11_sbcImm : lands (start 0x50 0x00 0x00 0xFF 0x0200 0x21 [0xE9, 0xF0] [])
    0x60 0x00 0x00 0xFF 0x0202 0x20 false [] = true := by decide
theorem test_A16_sbcImmEB : lands (start 0x10 0x00 0x00 0xFF 0x0200 0x21 [0xEB, 0x01] [])
    0x0F 0x00 0x00 0xFF 0x0202 0x21 false [] = true := by decide
theorem test_A17_sbcImm : lands (start 0x00 0x00 0x00 0xFF 0x0200 0x29 [0xE9, 0x01] [])
    0x99 0x00 0x00 0xFF 0x0202 0xA8 false [] = true := by decide
theorem test_A19_sbcImm : lands (start 0x10 0x00 0x00 0xFF 0x0200 0x28 [0xE9, 0x01] [])
    0x08 0x00 0x00 0xFF 0x0202 0x29 false [] = true := by decide
theorem test_A20_andImm : lands (start 0xF0 0x00 0x00 0xFF 0x0200 0x20 [0x29, 0x0F] [])
    0x00 0x00 0x00 0xFF 0x0202 0x22 false [] = true := by decide
theorem test_A21_andImm : lands (start 0x80 0x00 0x00 0xFF 0x0200 0x61 [0x29, 0xC0] [])
    0x80 0x00 0x00 0xFF 0x0202 0xE1 false [] = true := by decide
theorem test_A22_oraImm : lands (start 0x01 0x00 0x00 0xFF 0x0200 0x20 [0x09, 0x80] [])
    0x81 0x00 0x00 0xFF 0x0202 0xA0 false [] = true := by decide
theorem test_A23_oraImm : lands (start 0x00 0x00 0x00 0xFF 0x0200 0xA0 [0x09, 0x00] [])
    0x00 0x00 0x00 0xFF 0x0202 0x22 false [] = true := by decide
theorem test_A24_eorImm : lands (start 0xFF 0x00 0x00 0xFF 0x0200 0x20 [0x49, 0xFF] [])
    0x00 0x00 0x00 0xFF 0x0202 0x22 false [] = true := by decide
theorem test_A25_eorImm : lands (start 0xF0 0x00 0x00 0xFF 0x0200 0x20 [0x49, 0x0F] [])
    0xFF 0x00 0x00 0xFF 0x0202 0xA0 false [] = true := by decide
theorem test_A26_bitZp : lands (start 0x01 0x00 0x00 0xFF 0x0200 0x20 [0x24, 0x10] [(0x0010, 0xC0)])
    0x01 0x00 0x00 0xFF 0x0202 0xE2 false [] = true := by decide
theorem test_A27_bitZp : lands (start 0xC0 0x00 0x00 0xFF 0x0200 0x22 [0x24, 0x10] [(0x0010, 0xC0)])
    0xC0 0x00 0x00 0xFF 0x0202 0xE0 false [] = true := by decide
theorem test_A30_cmpImm : lands (start 0x10 0x00 0x00 0xFF 0x0200 0x20 [0xC9, 0x20] [])
    0x10 0x00 0x00 0xFF 0x0202 0xA0 false [] = true := by decide
theorem test_A31_cmpImm : lands (start 0x80 0x00 0x00 0xFF 0x0200 0x60 [0xC9, 0x01] [])
    0x80 0x00 0x00 0xFF 0x0202 0x61 false [] = true := by decide
theorem test_A33_cpxImm : lands (start 0x00 0x06 0x00 0xFF 0x0200 0x20 [0xE0, 0x05] [])
    0x00 0x06 0x00 0xFF 0x0202 0x21 false [] = true := by decide
theorem test_A34_cpxZp : lands (start 0x00 0x00 0x00 0xFF 0x0200 0x20 [0xE4, 0x10] [(0x0010, 0x01)])
    0x00 0x00 0x00 0xFF 0x0202 0xA0 false [] = true := by decide
theorem test_A35_cpyImm : lands (start 0x00 0x00 0x7F 0xFF 0x0200 0x20 [0xC0, 0x80] [])
    0x00 0x00 0x7F 0xFF 0x0202 0xA0 false [] = true := by decide
theorem test_A36_cpyAbs : lands (start 0x00 0x00 0xFF 0xFF 0x0200 0x20 [0xCC, 0x00, 0x30] [(0x3000, 0xFF)])
    0x00 0x00 0xFF 0xFF 0x0203 0x23 false [] = true := by decide
theorem test_A37_incZp : lands (start 0x00 0x00 0x00 0xFF 0x0200 0x21 [0xE6, 0x10] [(0x0010, 0xFF)])
    0x00 0x00 0x00 0xFF 0x0202 0x23 false [(0x0010, 0x00)] = true := by decide
theorem test_A38_incZp : lands (start 0x00 0x00 0x00 0xFF 0x0200 0x20 [0xE6, 0x10] [(0x0010, 0x7F)])
    0x00 0x00 0x00 0xFF 0x0202 0xA0 false [(0x0010, 0x80)] = true := by decide
theorem test_A40_decZp : lands (start 0x00 0x00 0x00 0xFF 0x0200 0x20 [0xC6, 0x10] [(0x0010, 0x00)])
    0x00 0x00 0x00 0xFF 0x0202 0xA0 false [(0x0010, 0xFF)] = true := by decide
theorem test_A41_decZp : lands (start 0x00 0x00 0x00 0xFF 0x0200 0xA0 [0xC6, 0x10] [(0x0010, 0x01)])
    0x00 0x00 0x00 0xFF 0x0202 0x22 false [(0x0010, 0x00)] = true := by decide
theorem test_A43_inx : lands (start 0x00 0xFF 0x00 0xFF 0x0200 0x20 [0xE8] [])
    0x00 0x00 0x00 0xFF 0x0201 0x22 false [] = true := by decide
theorem test_A44_iny : lands (start 0x00 0x00 0x7F 0xFF 0x0200 0x20 [0xC8] [])
    0x00 0x00 0x80 0xFF 0x0201 0xA0 false [] = true := by decide
theorem test_A45_dex : lands (start 0x00 0x00 0x00 0xFF 0x0200 0x20 [0xCA] [])
    0x00 0xFF 0x00 0xFF 0x0201 0xA0 false [] = true := by decide
theorem test_A46_dey : lands (start 0x00 0x00 0x01 0xFF 0x0200 0x20 [0x88] [])
    0x00 0x00 0x00 0xFF 0x0201 0x22 false [] = true := by decide
theorem test_S1_aslAcc : lands (start 0x81 0x00 0x00 0xFF 0x0200 0x20 [0x0A] [])
    0x02 0x00 0x00 0xFF 0x0201 0x21 false [] = true := by decide
theorem test_S2_aslAcc : lands (start 0x40 0x00 0x00 0xFF 0x0200 0x21 [0x0A] [])
    0x80 0x00 0x00 0xFF 0x0201 0xA0 false [] = true := by decide
theorem test_S5_lsrAcc : lands (start 0x01 0x00 0x00 0xFF 0x0200 0x20 [0x4A] [])
    0x00 0x00 0x00 0xFF 0x0201 0x23 false [] = true := by decide
theorem test_S6_lsrAcc : lands (start 0x80 0x00 0x00 0xFF 0x0200 0xA1 [0x4A] [])
    0x40 0x00 0x00 0xFF 0x0201 0x20 false [] = true := by decide
theorem test_S8_rolAcc : lands (start 0x80 0x00 0x00 0xFF 0x0200 0x20 [0x2A] [])
    0x00 0x00 0x00 0xFF 0x0201 0x23 false [] = true := by decide
theorem test_S9_rolAcc : lands (start 0x00 0x00 0x00 0xFF 0x0200 0x21 [0x2A] [])
    0x01 0x00 0x00 0xFF 0x0201 0x20 false [] = true := by decide
theorem test_S12_rorAcc : lands (start 0x01 0x00 0x00 0xFF 0x0200 0x20 [0x6A] [])
    0x00 0x00 0x00 0xFF 0x0201 0x23 false [] = true := by decide
theorem test_S13_rorAcc : lands (start 0x00 0x00 0x00 0xFF 0x0200 0x21 [0x6A] [])
    0x80 0x00 0x00 0xFF 0x0201 0xA0 false [] = true := by decide
theorem test_F1_bcc : lands (start 0x00 0x00 0x00 0xFF 0x0200 0x20 [0x90, 0x10] [])
    0x00 0x00 0x00 0xFF 0x0212 0x20 false [] = true := by decide
theorem test_F2_bcc : lands (start 0x00 0x00 0x00 0xFF 0x0200 0x21 [0x90, 0x10] [])
    0x00 0x00 0x00 0xFF 0x0202 0x21 false [] = true := by decide
theorem test_F3_bcs : lands (start 0x00 0x00 0x00 0xFF 0x0200 0x21 [0xB0, 0xFE] [])
    0x00 0x00 0x00 0xFF 0x0200 0x21 false [] = true := by decide
theorem test_F4_bcs : lands (start 0x00 0x00 0x00 0xFF 0x0200 0x20 [0xB0, 0x10] [])
    0x00 0x00 0x00 0xFF 0x0202 0x20 false [] = true := by decide
theorem test_F5_beq : lands (start 0x00 0x00 0x00 0xFF 0x0200 0x22 [0xF0, 0x80] [])
    0x00 0x00 0x00 0xFF 0x0182 0x22 false [] = true := by decide
theorem test_F6_beq : lands (start 0x00 0x00 0x00 0xFF 0x0200 0x22 [0xF0, 0x7F] [])
    0x00 0x00 0x00 0xFF 0x0281 0x22 false [] = true := by decide
theorem test_F10_bmi : lands (start 0x00 0x00 0x00 0xFF 0x0200 0xA0 [0x30, 0x02] [])
    0x00 0x00 0x00 0xFF 0x0204 0xA0 false [] = true := by decide
theorem test_F11_bmi : lands (start 0x00 0x00 0x00 0xFF 0x0200 0x20 [0x30, 0x02] [])
    0x00 0x00 0x00 0xFF 0x0202 0x20 false [] = true := by decide
theorem test_F12_bpl : lands (start 0x00 0x00 0x00 0xFF 0x0300 0x20 [0x10, 0xFC] [])
    0x00 0x00 0x00 0xFF 0x02FE 0x20 false [] = true := by decide
theorem test_F13_bpl : lands (start 0x00 0x00 0x00 0xFF 0x0300 0xA0 [0x10, 0xFC] [])
    0x00 0x00 0x00 0xFF 0x0302 0xA0 false [] = true := by decide
theorem test_F14_bvc : lands (start 0x00 0x00 0x00 0xFF 0x0200 0x20 [0x50, 0x10] [])
    0x00 0x00 0x00 0xFF 0x0212 0x20 false [] = true := by decide
theorem test_F15_bvc : lands (start 0x00 0x00 0x00 0xFF 0x0200 0x60 [0x50, 0x10] [])
    0x00 0x00 0x00 0xFF 0x0202 0x60 false [] = true := by decide
theorem test_F16_bvs : lands (start 0x00 0x00 0x00 0xFF 0x0200 0x60 [0x70, 0x10] [])
    0x00 0x00 0x00 0xFF 0x0212 0x60 false [] = true := by decide
theorem test_F17_bvs : lands (start 0x00 0x00 0x00 0xFF 0x0200 0x20 [0x70, 0x10] [])
    0x00 0x00 0x00 0xFF 0x0202 0x20 false [] = true := by decide
theorem test_F18_bne : lands (start 0x00 0x00 0x00 0xFF 0xFFF8 0x20 [0xD0, 0x10] [])
    0x00 0x00 0x00 0xFF 0x000A 0x20 false [] = true := by decide
theorem test_F19_bne : lands (start 0x00 0x00 0x00 0xFF 0x0010 0x20 [0xD0, 0x80] [])
    0x00 0x00 0x00 0xFF 0xFF92 0x20 false [] = true := by decide
theorem test_F20_jmpAdr : lands (start 0x00 0x00 0x00 0xFF 0x0200 0x20 [0x4C, 0x34, 0x12] [])
    0x00 0x00 0x00 0xFF 0x1234 0x20 false [] = true := by decide
theorem test_F22_jmpInd : lands (start 0x00 0x00 0x00 0xFF 0x0200 0x20 [0x6C, 0xFF, 0x30] [(0x3000, 0x56), (0x30FF, 0x78), (0x3100, 0x99)])
    0x00 0x00 0x00 0xFF 0x5678 0x20 false [] = true := by decide
theorem test_F24_jsr : lands (start 0x00 0x00 0x00 0x00 0x12FE 0x20 [0x20, 0x00, 0x30] [])
    0x00 0x00 0x00 0xFE 0x3000 0x20 false [(0x0100, 0x13), (0x01FF, 0x00)] = true := by decide
theorem test_F26_rts : lands (start 0x00 0x00 0x00 0xFD 0x0200 0x20 [0x60] [(0x01FE, 0xFF), (0x01FF, 0xFF)])
    0x00 0x00 0x00 0xFF 0x0000 0x20 false [] = true := by decide
theorem test_F27_rts : lands (start 0x00 0x00 0x00 0xFE 0x0200 0x20 [0x60] [(0x0100, 0x12), (0x01FF, 0x34)])
    0x00 0x00 0x00 0x00 0x1235 0x20 false [] = true := by decide
theorem test_F28_rti : lands (start 0x00 0x00 0x00 0xFC 0x0200 0x20 [0x40] [(0x01FD, 0xC3), (0x01FE, 0x34), (0x01FF, 0x12)])
    0x00 0x00 0x00 0xFF 0x1234 0xE3 false [] = true := by decide
theorem test_F29_rti : lands (start 0x00 0x00 0x00 0xFC 0x0200 0xEF [0x40] [(0x01FD, 0x00), (0x01FE, 0x00), (0x01FF, 0x80)])
    0x00 0x00 0x00 0xFF 0x8000 0x20 false [] = true := by decide
theorem test_F30_brk : lands (start 0x00 0x00 0x00 0xFF 0x0200 0xA1 [0x00, 0xEA] [(0xFFFE, 0x00), (0xFFFF, 0x90)])
    0x00 0x00 0x00 0xFC 0x9000 0xA5 false [(0x01FF, 0x02), (0x01FE, 0x02), (0x01FD, 0xB5)] = true := by decide
theorem test_F32_brk : lands { start 0x00 0x00 0x00 0xFF 0x0200 0x2C [0x00, 0xEA] [(0xFFFE, 0x00), (0xFFFF, 0x90)] with params := { Params.nominal with brkPushI := .old } }
    0x00 0x00 0x00 0xFC 0x9000 0x2C false [(0x01FF, 0x02), (0x01FE, 0x02), (0x01FD, 0x3C)] = true := by decide
theorem test_G1_clc : lands (start 0x00 0x00 0x00 0xFF 0x0200 0xA1 [0x18] [])
    0x00 0x00 0x00 0xFF 0x0201 0xA0 false [] = true := by decide
theorem test_G2_sec : lands (start 0x00 0x00 0x00 0xFF 0x0200 0x20 [0x38] [])
    0x00 0x00 0x00 0xFF 0x0201 0x21 false [] = true := by decide
theorem test_G3_cld : lands (start 0x00 0x00 0x00 0xFF 0x0200 0x28 [0xD8] [])
    0x00 0x00 0x00 0xFF 0x0201 0x20 false [] = true := by decide
theorem test_G4_sed : lands (start 0x00 0x00 0x00 0xFF 0x0200 0x20 [0xF8] [])
    0x00 0x00 0x00 0xFF 0x0201 0x28 false [] = true := by decide
theorem test_G5_cli : lands (start 0x00 0x00 0x00 0xFF 0x0200 0x24 [0x58] [])
    0x00 0x00 0x00 0xFF 0x0201 0x20 false [] = true := by decide
theorem test_G6_sei : lands (start 0x00 0x00 0x00 0xFF 0x0200 0x20 [0x78] [])
    0x00 0x00 0x00 0xFF 0x0201 0x24 false [] = true := by decide
theorem test_G7_clv : lands (start 0x00 0x00 0x00 0xFF 0x0200 0x61 [0xB8] [])
    0x00 0x00 0x00 0xFF 0x0201 0x21 false [] = true := by decide
theorem test_G10_nop3A : lands (start 0x00 0x00 0x00 0xFF 0x0200 0x20 [0x3A] [])
    0x00 0x00 0x00 0xFF 0x0201 0x20 false [] = true := by decide
theorem test_G12_nop04 : lands (start 0x00 0x00 0x00 0xFF 0x0200 0x20 [0x04, 0x10] [(0x0010, 0xFF)])
    0x00 0x00 0x00 0xFF 0x0202 0x20 false [] = true := by decide
theorem test_G15_nop1C : lands (start 0x00 0x01 0x00 0xFF 0x0200 0x20 [0x1C, 0xFF, 0x30] [])
    0x00 0x01 0x00 0xFF 0x0203 0x20 false [] = true := by decide
theorem test_G16_nop80 : lands (start 0x00 0x00 0x00 0xFF 0x0200 0x20 [0x80, 0x02] [])
    0x00 0x00 0x00 0xFF 0x0201 0x20 false [] = true := by decide
theorem test_G17_nop80 : lands { start 0x00 0x00 0x00 0xFF 0x0200 0x20 [0x80, 0x02] [] with params := { Params.nominal with opc80Form := .immediate2 } }
    0x00 0x00 0x00 0xFF 0x0202 0x20 false [] = true := by decide
theorem test_G18_hlt02 : lands (start 0x12 0x00 0x00 0xFF 0x0200 0xA0 [0x02] [])
    0x12 0x00 0x00 0xFF 0x0200 0xA0 true [] = true := by decide
theorem test_G20_hltF2 : lands (start 0x00 0x00 0x00 0xFF 0xFFFF 0x20 [0xF2] [])
    0x00 0x00 0x00 0xFF 0xFFFF 0x20 true [] = true := by decide
theorem test_G21_hlt82 : lands (start 0x00 0x00 0x00 0xFF 0x0200 0x20 [0x82, 0x02] [])
    0x00 0x00 0x00 0xFF 0x0200 0x20 true [] = true := by decide
theorem test_U1_asoZp : lands (start 0x01 0x00 0x00 0xFF 0x0200 0x20 [0x07, 0x10] [(0x0010, 0x81)])
    0x03 0x00 0x00 0xFF 0x0202 0x21 false [(0x0010, 0x02)] = true := by decide
theorem test_U2_asoZp : lands (start 0x00 0x00 0x00 0xFF 0x0200 0x20 [0x07, 0x10] [(0x0010, 0x80)])
    0x00 0x00 0x00 0xFF 0x0202 0x23 false [(0x0010, 0x00)] = true := by decide
theorem test_U6_rlaZp : lands (start 0xFF 0x00 0x00 0xFF 0x0200 0x21 [0x27, 0x10] [(0x0010, 0x80)])
    0x01 0x00 0x00 0xFF 0x0202 0x21 false [(0x0010, 0x01)] = true := by decide
theorem test_U7_rlaAbx : lands (start 0x01 0x01 0x00 0xFF 0x0200 0x20 [0x3F, 0x00, 0x30] [(0x3001, 0x80)])
    0x00 0x01 0x00 0xFF 0x0203 0x23 false [(0x3001, 0x00)] = true := by decide
theorem test_U8_lseZp : lands (start 0xFF 0x00 0x00 0xFF 0x0200 0x20 [0x47, 0x10] [(0x0010, 0x03)])
    0xFE 0x00 0x00 0xFF 0x0202 0xA1 false [(0x0010, 0x01)] = true := by decide
theorem test_U9_lseAby : lands (start 0x80 0x00 0x02 0xFF 0x0200 0x21 [0x5B, 0x00, 0x30] [(0x3002, 0xFE)])
    0xFF 0x00 0x02 0xFF 0x0203 0xA0 false [(0x3002, 0x7F)] = true := by decide
theorem test_U10_rraZp : lands (start 0x10 0x00 0x00 0xFF 0x0200 0x21 [0x67, 0x10] [(0x0010, 0x02)])
    0x91 0x00 0x00 0xFF 0x0202 0xA0 false [(0x0010, 0x81)] = true := by decide
theorem test_U13_rraZp : lands (start 0x19 0x00 0x00 0xFF 0x0200 0x28 [0x67, 0x10] [(0x0010, 0x03)])
    0x21 0x00 0x00 0xFF 0x0202 0x28 false [(0x0010, 0x01)] = true := by decide
theorem test_U15_dcmZp : lands (start 0x10 0x00 0x00 0xFF 0x0200 0x20 [0xC7, 0x10] [(0x0010, 0x00)])
    0x10 0x00 0x00 0xFF 0x0202 0x20 false [(0x0010, 0xFF)] = true := by decide
theorem test_U16_dcmAby : lands (start 0x05 0x00 0x01 0xFF 0x0200 0x68 [0xDB, 0x00, 0x30] [(0x3001, 0x05)])
    0x05 0x00 0x01 0xFF 0x0203 0x69 false [(0x3001, 0x04)] = true := by decide
theorem test_U18_insZp : lands (start 0x10 0x00 0x00 0xFF 0x0200 0x20 [0xE7, 0x10] [(0x0010, 0xFF)])
    0x0F 0x00 0x00 0xFF 0x0202 0x21 false [(0x0010, 0x00)] = true := by decide
theorem test_U20_insZp : lands (start 0x20 0x00 0x00 0xFF 0x0200 0x29 [0xE7, 0x10] [(0x0010, 0x08)])
    0x11 0x00 0x00 0xFF 0x0202 0x29 false [(0x0010, 0x09)] = true := by decide
theorem test_L1_las : lands (start 0x00 0x00 0x01 0xF0 0x0200 0x20 [0xBB, 0x00, 0x30] [(0x3001, 0x3C)])
    0x30 0x30 0x01 0x30 0x0203 0x20 false [] = true := by decide
theorem test_L2_las : lands (start 0x55 0x66 0x00 0x0F 0x0200 0x20 [0xBB, 0x00, 0x30] [(0x3000, 0xF0)])
    0x00 0x00 0x00 0x00 0x0203 0x22 false [] = true := by decide
theorem test_L3_laxZp : lands (start 0x00 0x00 0x00 0xFF 0x0200 0x20 [0xA7, 0x10] [(0x0010, 0x80)])
    0x80 0x80 0x00 0xFF 0x0202 0xA0 false [] = true := by decide
theorem test_L4_laxAbs : lands (start 0x01 0x02 0x00 0xFF 0x0200 0x20 [0xAF, 0x00, 0x30] [(0x3000, 0x00)])
    0x00 0x00 0x00 0xFF 0x0203 0x22 false [] = true := by decide
theorem test_L9_saxZp : lands (start 0xF0 0x3C 0x00 0xFF 0x0200 0xA2 [0x87, 0x10] [])
    0xF0 0x3C 0x00 0xFF 0x0202 0xA2 false [(0x0010, 0x30)] = true := by decide
theorem test_L10_saxAbs : lands (start 0xFF 0x00 0x00 0xFF 0x0200 0x20 [0x8F, 0x00, 0x30] [])
    0xFF 0x00 0x00 0xFF 0x0203 0x20 false [(0x3000, 0x00)] = true := by decide
theorem test_L14_shaAby : lands (start 0x0F 0xF3 0x10 0xFF 0x0200 0x20 [0x9F, 0x00, 0x30] [])
    0x0F 0xF3 0x10 0xFF 0x0203 0x20 false [(0x3010, 0x01)] = true := by decide
theorem test_L15_shaAby : lands (start 0xFF 0x21 0x20 0xFF 0x0200 0x20 [0x9F, 0xF0, 0x30] [])
    0xFF 0x21 0x20 0xFF 0x0203 0x20 false [(0x2110, 0x21)] = true := by decide
theorem test_L16_shaAby : lands (start 0xFF 0xFF 0x00 0xFF 0x0200 0x20 [0x9F, 0x00, 0xFF] [])
    0xFF 0xFF 0x00 0xFF 0x0203 0x20 false [(0xFF00, 0x00)] = true := by decide
theorem test_L18_shaIzy : lands (start 0x33 0xFF 0x10 0xFF 0x0200 0x20 [0x93, 0x40] [(0x0040, 0xF8), (0x0041, 0x12)])
    0x33 0xFF 0x10 0xFF 0x0202 0x20 false [(0x1308, 0x13)] = true := by decide
theorem test_L19_shs : lands (start 0xFF 0x7F 0x10 0xFF 0x0200 0x20 [0x9B, 0x00, 0x30] [])
    0xFF 0x7F 0x10 0x7F 0x0203 0x20 false [(0x3010, 0x31)] = true := by decide
theorem test_L20_shs : lands (start 0xFF 0x21 0x20 0xFF 0x0200 0x20 [0x9B, 0xF0, 0x30] [])
    0xFF 0x21 0x20 0x21 0x0203 0x20 false [(0x2110, 0x21)] = true := by decide
theorem test_L21_shx : lands (start 0x00 0xFF 0x10 0xFF 0x0200 0x20 [0x9E, 0x00, 0x30] [])
    0x00 0xFF 0x10 0xFF 0x0203 0x20 false [(0x3010, 0x31)] = true := by decide
theorem test_L22_shx : lands (start 0x00 0x55 0x20 0xFF 0x0200 0x20 [0x9E, 0xF0, 0x30] [])
    0x00 0x55 0x20 0xFF 0x0203 0x20 false [(0x1110, 0x11)] = true := by decide
theorem test_L23_shy : lands (start 0x00 0x10 0xFF 0xFF 0x0200 0x20 [0x9C, 0x00, 0x30] [])
    0x00 0x10 0xFF 0xFF 0x0203 0x20 false [(0x3010, 0x31)] = true := by decide
theorem test_L24_shy : lands (start 0x00 0x01 0x43 0xFF 0x0200 0x20 [0x9C, 0x80, 0x41] [])
    0x00 0x01 0x43 0xFF 0x0203 0x20 false [(0x4181, 0x42)] = true := by decide
theorem test_M1_alr : lands (start 0xFF 0x00 0x00 0xFF 0x0200 0x20 [0x4B, 0x0F] [])
    0x07 0x00 0x00 0xFF 0x0202 0x21 false [] = true := by decide
theorem test_M2_alr : lands (start 0xFF 0x00 0x00 0xFF 0x0200 0xA1 [0x4B, 0xFE] [])
    0x7F 0x00 0x00 0xFF 0x0202 0x20 false [] = true := by decide
theorem test_M4_anc0B : lands (start 0xFF 0x00 0x00 0xFF 0x0200 0x20 [0x0B, 0x80] [])
    0x80 0x00 0x00 0xFF 0x0202 0xA1 false [] = true := by decide
theorem test_M5_anc2B : lands (start 0xFF 0x00 0x00 0xFF 0x0200 0x21 [0x2B, 0x7F] [])
    0x7F 0x00 0x00 0xFF 0x0202 0x20 false [] = true := by decide
theorem test_M16_arr : lands (start 0x80 0x00 0x00 0xFF 0x0200 0x20 [0x6B, 0xFF] [])
    0x40 0x00 0x00 0xFF 0x0202 0x61 false [] = true := by decide
theorem test_M20_arr : lands (start 0x99 0x00 0x00 0xFF 0x0200 0x29 [0x6B, 0xFF] [])
    0x22 0x00 0x00 0xFF 0x0202 0xE9 false [] = true := by decide
theorem test_M22_lxa : lands (start 0x00 0x00 0x00 0xFF 0x0200 0x20 [0xAB, 0x5A] [])
    0x4A 0x4A 0x00 0xFF 0x0202 0x20 false [] = true := by decide
theorem test_M24_lxa : lands { start 0x00 0x00 0x00 0xFF 0x0200 0x20 [0xAB, 0x5A] [] with params := { Params.nominal with lxaConst := 0x00 } }
    0x00 0x00 0x00 0xFF 0x0202 0x22 false [] = true := by decide
theorem test_M27_sbx : lands (start 0xFF 0x30 0x00 0xFF 0x0200 0x20 [0xCB, 0x10] [])
    0xFF 0x20 0x00 0xFF 0x0202 0x21 false [] = true := by decide
theorem test_M28_sbx : lands (start 0x0F 0xFF 0x00 0xFF 0x0200 0x20 [0xCB, 0x20] [])
    0x0F 0xEF 0x00 0xFF 0x0202 0xA0 false [] = true := by decide
/-- The four masks of ANE (vectors M7 to M10, and M11, M12 where the mask cannot matter). -/
theorem test_M7_to_M12_ane :
    aneResult 0x11 0x11 0xFF 0xFF = 0xFF ∧ aneResult 0x10 0x11 0xFF 0xFF = 0xFE ∧
    aneResult 0x01 0x11 0xFF 0xFF = 0xEF ∧ aneResult 0x00 0x11 0xFF 0xFF = 0xEE ∧
    aneResult 0x11 0x00 0xF5 0x0F = 0x04 ∧ aneResult 0x00 0x00 0xF5 0x0F = 0x04 := by
  decide

/-- The step of ANE completes on vector M13 (operand 0: the result is 0 whatever the mask). -/
theorem test_M13_ane : ∃ t, step (start 0xFF 0xFF 0x00 0xFF 0x0200 0x20 [0x8B, 0x00] []) = .next t ∧
    t.x = 0xFF ∧ t.pc = 0x0202 ∧ t.draws = 1 := ⟨_, rfl, rfl, rfl, rfl⟩

/-- The SH rule with its term dropped: the register term alone, at the effective address where no page is crossed and with
the stored value as the high address byte where one is (46_undoc_load_store.md R233). -/
theorem test_sh_dropped :
    shValue true 0xF3 0x3000 = 0xF3 ∧ shTarget 0x3000 0x3010 0xF3 = 0x3010 ∧ shTarget 0x30F0 0x3110 0xF3 = 0xF310 := by
  decide

/-! ### Interrupts, reset and the halted state: vectors E1 to E8 of 95_test_vectors.md -/

/-- A start state with one input sample at its boundary. -/
def sampled (s : State) (irq nmi reset : Bool) : State := { s with inputs := [⟨irq, nmi, reset⟩] }

theorem test_E1_irq : lands (sampled (start 0x00 0x00 0x00 0xFF 0x0203 0xA1 [] [(0xFFFF, 0x90)]) true false false)
    0x00 0x00 0x00 0xFC 0x9000 0xA5 false [(0x01FF, 0x02), (0x01FE, 0x03), (0x01FD, 0xA1)] = true := by decide

theorem test_E2_irq_masked :
    lands (sampled (start 0x00 0x00 0x00 0xFF 0x0203 0x24 [0xEA] [(0xFFFF, 0x90)]) true false false)
    0x00 0x00 0x00 0xFF 0x0204 0x24 false [] = true := by decide

theorem test_E3_nmi : lands (sampled (start 0x00 0x00 0x00 0xFF 0x0203 0x2C [] [(0xFFFB, 0xA0)]) false true false)
    0x00 0x00 0x00 0xFC 0xA000 0x2C false [(0x01FF, 0x02), (0x01FE, 0x03), (0x01FD, 0x2C)] = true := by decide

theorem test_E4_irq_stack_wraps :
    lands (sampled (start 0x00 0x00 0x00 0x00 0x1234 0x20 [] [(0xFFFF, 0x90)]) true false false)
    0x00 0x00 0x00 0xFD 0x9000 0x24 false [(0x0100, 0x12), (0x01FF, 0x34), (0x01FE, 0x20)] = true := by decide

theorem test_E5_rti_after_irq :
    lands (start 0x00 0x00 0x00 0xFC 0x9000 0x64 [0x40] [(0x01FF, 0x02), (0x01FE, 0x03), (0x01FD, 0x60)])
    0x00 0x00 0x00 0xFF 0x0203 0x60 false [] = true := by decide

/-- E6: what the spec states of a reset event, and no more. -/
theorem test_E6_reset : ∃ t,
    step (sampled { start 0x12 0x34 0x56 0x78 0x0200 0xA8 [] [(0xFFFD, 0x80)] with halted := true } false false true) =
      .next t ∧
    t.halted = false ∧ t.nmiPending = false ∧ t.p.i = true ∧ t.pc = 0x8000 ∧ t.mem = [(0xFFFD, 0x80)] :=
  ⟨_, rfl, rfl, rfl, rfl, by decide, by decide⟩

theorem test_E7_halted_takes_no_interrupt :
    lands (sampled { start 0x00 0x00 0x00 0xFF 0x0200 0x20 [0x02] [(0xFFFB, 0xA0), (0xFFFF, 0x90)] with halted := true }
      true true false) 0x00 0x00 0x00 0xFF 0x0200 0x20 true [] = true := by decide

theorem test_E8a_brk : lands (start 0x00 0x00 0x00 0xFF 0x0200 0x20 [0x00, 0xEA] [(0xFFFF, 0x90)])
    0x00 0x00 0x00 0xFC 0x9000 0x24 false [(0x01FF, 0x02), (0x01FE, 0x02), (0x01FD, 0x34)] = true := by decide

theorem test_E8b_irq : lands (sampled (start 0x00 0x00 0x00 0xFF 0x0200 0x20 [] [(0xFFFF, 0x90)]) true false false)
    0x00 0x00 0x00 0xFC 0x9000 0x24 false [(0x01FF, 0x02), (0x01FE, 0x00), (0x01FD, 0x20)] = true := by decide

/-- The first step from a power-on, with a program loaded: P6's first instruction (SEI at 0x8000). -/
theorem test_P6_first_step :
    lands (State.powerOn (block (cells Memory.empty [(0xFFFD, 0x80)]) 0x8000 [0x78]))
    0x00 0x00 0x00 0x00 0x8001 0x24 false [] = true := by decide

/-- `withFetchWord`: the next step runs the instruction placed, here JSR 0x1234 with the operand bytes given. -/
theorem test_withFetchWord : lands (State.reset.withFetchWord 24 0x123420)
    0x00 0x00 0x00 0xFE 0x1234 0x24 false [(0x0100, 0x00), (0x01FF, 0x02)] = true := by decide

/-! ### Witnesses: the hypotheses of the statements hold of concrete states -/

/-- A state with bytes, pointers and a decimal operand 0x99 in every addressing mode, for `b1 = 0x99`, `b2 = 0x30`. -/
def nines : State :=
  { start 0x99 0x00 0x00 0xFF 0x0200 0x29 [] [(0x0099, 0x99), (0x009A, 0x40), (0x4099, 0x99), (0x3099, 0x99)] with
    inputs := [] }

theorem witness_PowerOnAndResetEvent :
    (sampled State.reset false false true).sampleInputs.resetLine = true ∧
    (sampled { State.reset with halted := true } true true true).sampleInputs.resetLine = true := by decide

theorem witness_ResetStateIsCanonical : Memory.wf [(0x0000, 0x01), (0xFFFF, 0x90)] = true := by decide

theorem witness_StatusByteLayout : (0xFF : Byte) &&& 0xCF = 0xCF &&& 0xCF ∧ (0xFF : Byte) ≠ 0xCF := by decide

theorem witness_PushThenPullRestores :
    (∃ t, exec .pha (start 0x42 0 0 0x00 0x0201 0xFF [] []) = .next t) ∧
    (∃ t, exec .php (start 0x42 0 0 0x00 0x0201 0xFF [] []) = .next t) := ⟨⟨_, rfl⟩, ⟨_, rfl⟩⟩

/-- The hypotheses of every clause, with the largest decimal operand. -/
theorem witness_DecimalAdcIsDecimalAddition :
    nines.p.d = true ∧ ValidBcd nines.a ∧ ValidBcd (nines.read (eaIzx 0x99 nines)) ∧
    ValidBcd (nines.read (eaZp 0x99)) ∧ ValidBcd 0x99 ∧ ValidBcd (nines.read (eaAbs 0x99 0x30)) ∧
    ValidBcd (nines.read (eaIzy 0x99 nines)) ∧ ValidBcd (nines.read (eaZpx 0x99 nines)) ∧
    ValidBcd (nines.read (eaAby 0x99 0x30 nines)) ∧ ValidBcd (nines.read (eaAbx 0x99 0x30 nines)) := by
  unfold ValidBcd; decide

/-- The operands of that witness are 0x99 in every mode. -/
theorem witness_nines_operands :
    [nines.read (eaIzx 0x99 nines), nines.read (eaZp 0x99), nines.read (eaAbs 0x99 0x30), nines.read (eaIzy 0x99 nines),
      nines.read (eaZpx 0x99 nines), nines.read (eaAby 0x99 0x30 nines), nines.read (eaAbx 0x99 0x30 nines)] =
    [0x99, 0x99, 0x99, 0x99, 0x99, 0x99, 0x99] := by decide

/-- A state in which `b1 = 0x00` is a decimal operand and A is the least decimal number. -/
def zeros : State := start 0x00 0x00 0x00 0xFF 0x0200 0x28 [] []

theorem witness_DecimalSbcIsDecimalSubtraction :
    zeros.p.d = true ∧ ValidBcd zeros.a ∧ ValidBcd (zeros.read (eaIzx 0x00 zeros)) ∧
    ValidBcd (zeros.read (eaZp 0x00)) ∧ ValidBcd 0x00 ∧ ValidBcd (zeros.read (eaAbs 0x00 0x00)) ∧
    ValidBcd (zeros.read (eaIzy 0x00 zeros)) ∧ ValidBcd (zeros.read (eaZpx 0x00 zeros)) ∧
    ValidBcd (zeros.read (eaAby 0x00 0x00 zeros)) ∧ ValidBcd (zeros.read (eaAbx 0x00 0x00 zeros)) := by
  unfold ValidBcd; decide

theorem witness_JsrThenRtsReturns :
    ∃ t, exec (.jsr 0x00 0x30) (start 0 0 0 0x00 0x1301 0x20 [] []) = .next t := ⟨_, rfl⟩

theorem witness_BrkThenRtiResumes :
    ∃ t, exec (.brk 0xEA) (start 0 0 0 0x01 0x0202 0x20 [] [(0xFFFF, 0x90)]) = .next t := ⟨_, rfl⟩

/-- A halted state with IRQ and NMI asserted and RESET not asserted. -/
theorem witness_HltStopsTheProcessor :
    (sampled { State.reset with halted := true } true true false).halted = true ∧
    (sampled { State.reset with halted := true } true true false).sampleInputs.resetLine = false := by decide

theorem witness_ShaShxShyStoreWithTheHighByte : State.reset.params.shUnstable = false := by decide

/-- The premise of the last clause. -/
theorem witness_ShsSetsSAndStores : State.reset.params.shUnstable = false := by decide

/-- Both cases of the target: no page crossed, and a page crossed. -/
theorem witness_ShStores_cases : hi (eaAby 0xFF 0x30 { State.reset with y := 0x00 }) = hi (eaAbs 0xFF 0x30) ∧
    hi (eaAby 0xFF 0x30 { State.reset with y := 0x01 }) ≠ hi (eaAbs 0xFF 0x30) := by decide

theorem witness_AneHoldsForEveryMask :
    (start 0xEE 0xFF 0 0xFF 0x0202 0x20 [] []).a &&& (start 0xEE 0xFF 0 0xFF 0x0202 0x20 [] []).x &&& 0xFF &&& 0x11 = 0 := by
  decide

theorem witness_LxaForEveryConstant : (start 0xFF 0 0 0xFF 0x0202 0x20 [] []).a = 0xFF ∧ (0x00 : Byte) = 0 := by decide

theorem witness_IrqEntryWhenUnmasked :
    let s := sampled (start 0 0 0 0xFF 0x0203 0x20 [] []) true false false
    s.sampleInputs.resetLine = false ∧ s.sampleInputs.halted = false ∧ s.sampleInputs.nmiPending = false ∧
      s.sampleInputs.irqLine = true ∧ s.sampleInputs.p.i = false := by decide

/-- An NMI that arrives at this boundary, and one that was pending, both with I = 1. -/
theorem witness_NmiEntryWhateverIIs :
    let s := sampled (start 0 0 0 0xFF 0x0203 0x24 [] []) true true false
    let t := { start 0 0 0 0xFF 0x0203 0x24 [] [] with nmiPending := true }
    (s.sampleInputs.resetLine = false ∧ s.sampleInputs.halted = false ∧ s.sampleInputs.nmiPending = true) ∧
      t.sampleInputs.resetLine = false ∧ t.sampleInputs.halted = false ∧ t.sampleInputs.nmiPending = true := by decide

theorem witness_InputsAreSampledOncePerBoundary :
    (sampled State.reset true true false).inputs = ⟨true, true, false⟩ :: [] ∧ State.reset.inputs = [] := by decide

/-- I = 1 with no sample left, and I = 1 where a sample is taken: one that asserts RESET, and an NMI edge with a
further sample to come, whose two steps are made. -/
theorem witness_MaskedIrqLetsTheInstructionRun :
    (State.reset.p.i = true ∧ State.reset.inputs = []) ∧
    (let s := start 0 0 0 0xFF 0x0203 0x24 [0xEA] []
     s.p.i = true ∧
       (∃ t, step { s with inputs := [⟨false, true, false⟩, ⟨true, false, false⟩] } = .next t ∧ t.irqLine = false) ∧
       (∃ t, step { s with inputs := [⟨true, false, true⟩] } = .next t ∧ t.irqLine = true)) :=
  ⟨by decide, by decide, ⟨_, rfl, by decide⟩, ⟨_, rfl, by decide⟩⟩

/-- A halted run with no sample left, and one with an NMI and an IRQ still to come. -/
theorem witness_EndedRunStaysEnded : ({ State.reset with halted := true } : State).ended = true ∧
    (sampled { State.reset with halted := true } true true false).ended = true := by decide

/-- With no interrupt, and with an IRQ that I = 1 masks; the instruction lies across the end of the address space. -/
theorem witness_StepRunsTheDecodedInstruction :
    let s := start 0 0 0 0xFF 0xFFFF 0x24 [0x8D, 0x34, 0x12] []
    LetsInstructionRun s.sampleInputs ∧ LetsInstructionRun (sampled s true false false).sampleInputs ∧
      decode s.params [s.read s.pc, s.read (s.pc + 1), s.read (s.pc + 2)] = .instr (.staAbs 0x34 0x12) [] := by
  unfold LetsInstructionRun; decide

theorem witness_DecodeInvertsEncode :
    Instr.wellFormed Params.nominal (.staAbs 0x34 0x12) = true ∧ Instr.wellFormed Params.nominal .nop80 = true ∧
    Instr.wellFormed { Params.nominal with opc80Form := .immediate2 } (.nop80Imm 0xFF) = true ∧
    Instr.wellFormed Params.nominal .hlt82 = true ∧
    Instr.wellFormed { Params.nominal with jam3Form := .nopImmediate2 } (.nop82Imm 0xFF) = true := by decide

theorem witness_StepKeepsMemoryCanonicalAndParameters :
    (∃ t, step (start 0x55 0 0 0xFF 0x0200 0x20 [0x85, 0x10] []) = .next t) ∧
    (start 0x55 0 0 0xFF 0x0200 0x20 [0x85, 0x10] []).wf = true := ⟨⟨_, rfl⟩, by decide⟩

/-- For each clause an instruction and a state in which the part does change. -/
theorem witness_OnlyTheNamedInstructionsWrite :
    let s := start 0x55 0x0F 0x33 0xFF 0x0200 0x60 [] []
    (∃ t, exec (.ldaImm 0) s = .next t ∧ t.a ≠ s.a) ∧ (∃ t, exec (.sbx 0) s = .next t ∧ t.x ≠ s.x) ∧
    (∃ t, exec .dey s = .next t ∧ t.y ≠ s.y) ∧ (∃ t, exec .txs s = .next t ∧ t.sp ≠ s.sp) ∧
    (∃ t, exec (.staZp 0x10) s = .next t ∧ ∃ b : Addr, t.read b ≠ s.read b) ∧
    (∃ t, exec (.ldaImm 0x80) s = .next t ∧ t.p.n ≠ s.p.n) ∧ (∃ t, exec (.ldaImm 0) s = .next t ∧ t.p.z ≠ s.p.z) ∧
    (∃ t, exec .clv s = .next t ∧ t.p.v ≠ s.p.v) ∧ (∃ t, exec .sed s = .next t ∧ t.p.d ≠ s.p.d) ∧
    (∃ t, exec .sei s = .next t ∧ t.p.i ≠ s.p.i) ∧ (∃ t, exec .sec s = .next t ∧ t.p.c ≠ s.p.c) ∧
    (∃ t, exec .hltF2 s = .next t ∧ t.halted ≠ s.halted) :=
  ⟨⟨_, rfl, by decide⟩, ⟨_, rfl, by decide⟩, ⟨_, rfl, by decide⟩, ⟨_, rfl, by decide⟩, ⟨_, rfl, 0x10, by decide⟩,
   ⟨_, rfl, by decide⟩, ⟨_, rfl, by decide⟩, ⟨_, rfl, by decide⟩, ⟨_, rfl, by decide⟩, ⟨_, rfl, by decide⟩, ⟨_, rfl, by decide⟩, ⟨_, rfl, by decide⟩⟩

end Sys2Proof.Tests
end

section
/-! Proofs, part 1: frames. Which parts of the state each operation of the model can change, as `OnlyChanges` facts that
compose along the operation's definition. -/

namespace Sys2Proof.Proofs

open Sys2Proof Sys2Proof.Machine Sys2Proof.Claims

/-! ### The frame, part by part -/

/-- The criterion that proves a frame: one implication for each part of the state. -/
theorem onlyChanges_iff {parts : List Part} {s t : State} :
    OnlyChanges parts s t ↔
      (.a ∉ parts → t.a = s.a) ∧ (.x ∉ parts → t.x = s.x) ∧ (.y ∉ parts → t.y = s.y) ∧
      (.sp ∉ parts → t.sp = s.sp) ∧ (.pc ∉ parts → t.pc = s.pc) ∧
      (.n ∉ parts → t.p.n = s.p.n) ∧ (.v ∉ parts → t.p.v = s.p.v) ∧ (.d ∉ parts → t.p.d = s.p.d) ∧
      (.i ∉ parts → t.p.i = s.p.i) ∧ (.z ∉ parts → t.p.z = s.p.z) ∧ (.c ∉ parts → t.p.c = s.p.c) ∧
      (.halted ∉ parts → t.halted = s.halted) ∧ (.nmiPending ∉ parts → t.nmiPending = s.nmiPending) ∧
      (.irqLine ∉ parts → t.irqLine = s.irqLine) ∧ (.resetLine ∉ parts → t.resetLine = s.resetLine) ∧
      (.inputs ∉ parts → t.inputs = s.inputs) ∧ (.mem ∉ parts → ∀ b : Addr, t.read b = s.read b) ∧
      (.params ∉ parts → t.params = s.params) ∧ (.draws ∉ parts → t.draws = s.draws) := by
  constructor
  · intro h
    exact ⟨h .a, h .x, h .y, h .sp, h .pc, h .n, h .v, h .d, h .i, h .z, h .c, h .halted, h .nmiPending, h .irqLine,
      h .resetLine, h .inputs, h .mem, h .params, h .draws⟩
  · rintro ⟨ha, hx, hy, hsp, hpc, hn, hv, hd, hi, hz, hc, hhalted, hnmi, hirq, hreset, hinputs, hmem,
      hparams, hdraws⟩
    intro q
    cases q
    exacts [ha, hx, hy, hsp, hpc, hn, hv, hd, hi, hz, hc, hhalted, hnmi, hirq, hreset, hinputs, hmem, hparams, hdraws]

theorem samePart_trans {s t u : State} {q : Part} (h : SamePart s t q) (h' : SamePart t u q) : SamePart s u q := by
  cases q
  case mem => exact fun b => (h' b).trans (h b)
  all_goals exact Eq.trans h' h

/-- The empty frame holds of a state and itself. -/
theorem onlyChanges_refl (s : State) : OnlyChanges [] s s := by simp [onlyChanges_iff]

/-- One operation after another changes at most what the two change. -/
theorem onlyChanges_trans {parts parts' : List Part} {s t u : State} (h : OnlyChanges parts s t)
    (h' : OnlyChanges parts' t u) : OnlyChanges (parts ++ parts') s u := by
  intro q hq
  obtain ⟨hp, hp'⟩ := not_or.mp (mt List.mem_append.mpr hq)
  exact samePart_trans (h q hp) (h' q hp')

/-- A frame may list more parts than change. -/
theorem onlyChanges_mono {parts parts' : List Part} {s t : State} (h : OnlyChanges parts s t)
    (hsub : parts ⊆ parts') : OnlyChanges parts' s t :=
  fun q hq => h q (mt (@hsub q) hq)

/-! ### Which flags a status computation changes -/

/-- Of two statuses every flag that is not listed is the same; `setP_onlyChanges` makes it a frame of states. -/
def FlagsOnlyChange (parts : List Part) (p r : Status) : Prop :=
  (.n ∉ parts → r.n = p.n) ∧ (.v ∉ parts → r.v = p.v) ∧ (.d ∉ parts → r.d = p.d) ∧
    (.i ∉ parts → r.i = p.i) ∧ (.z ∉ parts → r.z = p.z) ∧ (.c ∉ parts → r.c = p.c)

theorem flagsOnlyChange_all (p r : Status) : FlagsOnlyChange [.n, .v, .d, .i, .z, .c] p r := by
  simp [FlagsOnlyChange]

theorem setV_flagsOnlyChange (b : Bool) (p : Status) : FlagsOnlyChange [.v] p { p with v := b } := by
  simp [FlagsOnlyChange]

theorem setD_flagsOnlyChange (b : Bool) (p : Status) : FlagsOnlyChange [.d] p { p with d := b } := by
  simp [FlagsOnlyChange]

theorem setI_flagsOnlyChange (b : Bool) (p : Status) : FlagsOnlyChange [.i] p { p with i := b } := by
  simp [FlagsOnlyChange]

theorem setC_flagsOnlyChange (b : Bool) (p : Status) : FlagsOnlyChange [.c] p { p with c := b } := by
  simp [FlagsOnlyChange]

theorem setNZ_flagsOnlyChange (v : Byte) (p : Status) : FlagsOnlyChange [.n, .z] p (setNZ v p) := by
  simp [FlagsOnlyChange]

theorem adcByMode_flagsOnlyChange (a m : Byte) (p : Status) :
    FlagsOnlyChange [.n, .v, .z, .c] p (adcByMode a m p).2 := by simp [FlagsOnlyChange]

theorem sbcByMode_flagsOnlyChange (a m : Byte) (p : Status) :
    FlagsOnlyChange [.n, .v, .z, .c] p (sbcByMode a m p).2 := by simp [FlagsOnlyChange]

theorem compareFlags_flagsOnlyChange (r m : Byte) (p : Status) :
    FlagsOnlyChange [.n, .z, .c] p (compareFlags r m p) := by simp [FlagsOnlyChange]

theorem bitFlags_flagsOnlyChange (a m : Byte) (p : Status) :
    FlagsOnlyChange [.n, .v, .z] p (bitFlags a m p) := by simp [FlagsOnlyChange]

theorem incCore_flagsOnlyChange (v : Byte) (p : Status) : FlagsOnlyChange [.n, .z] p (incCore v p).2 :=
  setNZ_flagsOnlyChange _ p

theorem decCore_flagsOnlyChange (v : Byte) (p : Status) : FlagsOnlyChange [.n, .z] p (decCore v p).2 :=
  setNZ_flagsOnlyChange _ p

theorem aslCore_flagsOnlyChange (v : Byte) (p : Status) :
    FlagsOnlyChange [.n, .z, .c] p (aslCore v p).2 := by simp [FlagsOnlyChange]

theorem lsrCore_flagsOnlyChange (v : Byte) (p : Status) :
    FlagsOnlyChange [.n, .z, .c] p (lsrCore v p).2 := by simp [FlagsOnlyChange]

theorem rolCore_flagsOnlyChange (v : Byte) (p : Status) :
    FlagsOnlyChange [.n, .z, .c] p (rolCore v p).2 := by simp [FlagsOnlyChange]

theorem rorCore_flagsOnlyChange (v : Byte) (p : Status) :
    FlagsOnlyChange [.n, .z, .c] p (rorCore v p).2 := by simp [FlagsOnlyChange]

theorem ancCore_flagsOnlyChange (a imm : Byte) (p : Status) :
    FlagsOnlyChange [.n, .z, .c] p (ancCore a imm p).2 := by simp [FlagsOnlyChange, ancCore]

theorem arrByMode_flagsOnlyChange (a imm : Byte) (p : Status) :
    FlagsOnlyChange [.n, .v, .z, .c] p (arrByMode a imm p).2 := by simp [FlagsOnlyChange]

/-! ### Updates of one field -/

theorem setA_onlyChanges (s : State) (v : Byte) : OnlyChanges [.a] s (s.setA v) := by simp [onlyChanges_iff]
theorem setX_onlyChanges (s : State) (v : Byte) : OnlyChanges [.x] s (s.setX v) := by simp [onlyChanges_iff]
theorem setY_onlyChanges (s : State) (v : Byte) : OnlyChanges [.y] s (s.setY v) := by simp [onlyChanges_iff]
theorem setSp_onlyChanges (s : State) (v : Byte) : OnlyChanges [.sp] s (s.setSp v) := by simp [onlyChanges_iff]
theorem setPc_onlyChanges (s : State) (w : Addr) : OnlyChanges [.pc] s (s.setPc w) := by simp [onlyChanges_iff]

theorem setHalted_onlyChanges (s : State) (b : Bool) : OnlyChanges [.halted] s (s.setHalted b) := by
  simp [onlyChanges_iff]

theorem nextDraw_onlyChanges (s : State) : OnlyChanges [.draws] s s.nextDraw := by simp [onlyChanges_iff]

theorem write_onlyChanges (s : State) (a : Addr) (v : Byte) : OnlyChanges [.mem] s (s.write a v) := by
  simp [onlyChanges_iff]

theorem setP_onlyChanges {parts : List Part} {s : State} {r : Status} (h : FlagsOnlyChange parts s.p r) :
    OnlyChanges parts s (s.setP r) := by
  obtain ⟨hn, hv, hd, hi, hz, hc⟩ := h
  intro q hq
  cases q
  case n => exact hn hq
  case v => exact hv hq
  case d => exact hd hq
  case i => exact hi hq
  case z => exact hz hq
  case c => exact hc hq
  case mem => exact fun _ => rfl
  all_goals rfl

/-! ### The shared operations (Ops.lean) -/

theorem push_onlyChanges (s : State) (v : Byte) : OnlyChanges [.mem, .sp] s (s.push v) :=
  onlyChanges_trans (write_onlyChanges s _ v) (setSp_onlyChanges _ _)

theorem push16_onlyChanges (s : State) (w : Addr) : OnlyChanges [.mem, .sp] s (s.push16 w) :=
  onlyChanges_mono (onlyChanges_trans (push_onlyChanges s _) (push_onlyChanges _ _)) (by decide)

theorem afterPull_onlyChanges (s : State) : OnlyChanges [.sp] s s.afterPull := setSp_onlyChanges s _

theorem trapEntry_onlyChanges (s : State) (ret : Addr) (status : Byte) (vec : Addr) :
    OnlyChanges [.mem, .sp, .i, .pc] s (s.trapEntry ret status vec) := by
  have hpushes : OnlyChanges [.mem, .sp] s ((s.push16 ret).push status) :=
    onlyChanges_mono (onlyChanges_trans (push16_onlyChanges s ret) (push_onlyChanges _ status)) (by decide)
  have hflag := onlyChanges_trans hpushes (setP_onlyChanges (setI_flagsOnlyChange true _))
  exact onlyChanges_trans hflag (setPc_onlyChanges _ _)

theorem pullStatus_onlyChanges (s : State) :
    OnlyChanges [.sp, .n, .v, .d, .i, .z, .c] s (s.afterPull.setP (statusOfByte s.pulled)) :=
  onlyChanges_trans (afterPull_onlyChanges s) (setP_onlyChanges (flagsOnlyChange_all _ _))

theorem returnFromTrap_onlyChanges (s : State) :
    OnlyChanges [.sp, .n, .v, .d, .i, .z, .c, .pc] s s.returnFromTrap := by
  have hpulls := onlyChanges_trans (onlyChanges_trans (pullStatus_onlyChanges s) (afterPull_onlyChanges _))
    (afterPull_onlyChanges _)
  exact onlyChanges_mono (onlyChanges_trans hpulls (setPc_onlyChanges _ _)) (by decide)

theorem accumulate_onlyChanges {parts : List Part} {s : State} {r : Byte × Status}
    (h : FlagsOnlyChange parts s.p r.2) : OnlyChanges (.a :: parts) s (s.accumulate r) :=
  onlyChanges_trans (setA_onlyChanges s r.1) (setP_onlyChanges h)

section Cores

/-! The frames of the read-modify-write operations, for any core whose answer changes only the flags listed. -/

variable {core : Byte → Status → Byte × Status} {flags : List Part}
  (hcore : ∀ v p, FlagsOnlyChange flags p (core v p).2)

include hcore

theorem modifyA_onlyChanges (s : State) : OnlyChanges (.a :: flags) s (s.modifyA core) :=
  accumulate_onlyChanges (hcore s.a s.p)

theorem modifyMem_onlyChanges (ea : Addr) (s : State) : OnlyChanges (.mem :: flags) s (s.modifyMem core ea) :=
  onlyChanges_trans (write_onlyChanges s ea _) (setP_onlyChanges (hcore (s.read ea) s.p))

theorem modifyMemThen_onlyChanges {second : Byte → State → State} {parts : List Part}
    (hsecond : ∀ v t, OnlyChanges parts t (second v t)) (ea : Addr) (s : State) :
    OnlyChanges (.mem :: flags ++ parts) s (s.modifyMemThen core second ea) :=
  onlyChanges_trans (modifyMem_onlyChanges hcore ea s) (hsecond _ _)

end Cores

/-! ### The operations of the families -/

theorem loadA_onlyChanges (v : Byte) (s : State) : OnlyChanges [.a, .n, .z] s (loadA v s) :=
  onlyChanges_trans (setA_onlyChanges s v) (setP_onlyChanges (setNZ_flagsOnlyChange v s.p))

theorem loadX_onlyChanges (v : Byte) (s : State) : OnlyChanges [.x, .n, .z] s (loadX v s) :=
  onlyChanges_trans (setX_onlyChanges s v) (setP_onlyChanges (setNZ_flagsOnlyChange v s.p))

theorem loadY_onlyChanges (v : Byte) (s : State) : OnlyChanges [.y, .n, .z] s (loadY v s) :=
  onlyChanges_trans (setY_onlyChanges s v) (setP_onlyChanges (setNZ_flagsOnlyChange v s.p))

theorem pullA_onlyChanges (s : State) : OnlyChanges [.sp, .a, .n, .z] s (pullA s) :=
  onlyChanges_trans (afterPull_onlyChanges s) (loadA_onlyChanges _ _)

theorem andA_onlyChanges (m : Byte) (s : State) : OnlyChanges [.a, .n, .z] s (andA m s) := loadA_onlyChanges _ s
theorem orA_onlyChanges (m : Byte) (s : State) : OnlyChanges [.a, .n, .z] s (orA m s) := loadA_onlyChanges _ s
theorem xorA_onlyChanges (m : Byte) (s : State) : OnlyChanges [.a, .n, .z] s (xorA m s) := loadA_onlyChanges _ s

theorem addWithCarry_onlyChanges (m : Byte) (s : State) : OnlyChanges [.a, .n, .v, .z, .c] s (addWithCarry m s) :=
  accumulate_onlyChanges (adcByMode_flagsOnlyChange s.a m s.p)

theorem subtractWithBorrow_onlyChanges (m : Byte) (s : State) :
    OnlyChanges [.a, .n, .v, .z, .c] s (subtractWithBorrow m s) :=
  accumulate_onlyChanges (sbcByMode_flagsOnlyChange s.a m s.p)

theorem bitTest_onlyChanges (m : Byte) (s : State) : OnlyChanges [.n, .v, .z] s (bitTest m s) :=
  setP_onlyChanges (bitFlags_flagsOnlyChange s.a m s.p)

theorem compareA_onlyChanges (m : Byte) (s : State) : OnlyChanges [.n, .z, .c] s (compareA m s) :=
  setP_onlyChanges (compareFlags_flagsOnlyChange s.a m s.p)

theorem compareX_onlyChanges (m : Byte) (s : State) : OnlyChanges [.n, .z, .c] s (compareX m s) :=
  setP_onlyChanges (compareFlags_flagsOnlyChange s.x m s.p)

theorem compareY_onlyChanges (m : Byte) (s : State) : OnlyChanges [.n, .z, .c] s (compareY m s) :=
  setP_onlyChanges (compareFlags_flagsOnlyChange s.y m s.p)

theorem branch_onlyChanges (cond : Bool) (b1 : Byte) (s : State) : OnlyChanges [.pc] s (branch cond b1 s) := by
  cases cond
  case false => exact onlyChanges_mono (onlyChanges_refl s) (List.nil_subset _)
  case true => exact setPc_onlyChanges s _

theorem callSubroutine_onlyChanges (target : Addr) (s : State) :
    OnlyChanges [.mem, .sp, .pc] s (callSubroutine target s) :=
  onlyChanges_trans (push16_onlyChanges s _) (setPc_onlyChanges _ target)

theorem returnFromSubroutine_onlyChanges (s : State) : OnlyChanges [.sp, .pc] s (returnFromSubroutine s) := by
  have hpulls := onlyChanges_trans (afterPull_onlyChanges s) (afterPull_onlyChanges _)
  exact onlyChanges_mono (onlyChanges_trans hpulls (setPc_onlyChanges _ _)) (by decide)

theorem halt_onlyChanges (s : State) : OnlyChanges [.halted, .pc] s (halt s) :=
  onlyChanges_trans (setHalted_onlyChanges s true) (setPc_onlyChanges _ _)

theorem loadAX_onlyChanges (m : Byte) (s : State) : OnlyChanges [.x, .a, .n, .z] s (loadAX m s) :=
  onlyChanges_trans (setX_onlyChanges s m) (loadA_onlyChanges m _)

theorem loadASX_onlyChanges (m : Byte) (s : State) : OnlyChanges [.sp, .x, .a, .n, .z] s (loadASX m s) :=
  onlyChanges_trans (setSp_onlyChanges s _) (loadAX_onlyChanges _ _)

theorem shStore_onlyChanges (reg : Byte) (base ea : Addr) (s : State) :
    OnlyChanges [.mem, .draws] s (shStore reg base ea s) := by
  have hdraw (t : State) : OnlyChanges [.draws] t t.afterShDraw := by simp [onlyChanges_iff]
  exact onlyChanges_trans (write_onlyChanges s _ _) (hdraw _)

theorem andThenLsr_onlyChanges (imm : Byte) (s : State) : OnlyChanges [.a, .n, .z, .c] s (andThenLsr imm s) :=
  accumulate_onlyChanges (lsrCore_flagsOnlyChange _ s.p)

theorem andThenCarry_onlyChanges (imm : Byte) (s : State) : OnlyChanges [.a, .n, .z, .c] s (andThenCarry imm s) :=
  accumulate_onlyChanges (ancCore_flagsOnlyChange s.a imm s.p)

theorem andXUnstable_onlyChanges (imm : Byte) (s : State) :
    OnlyChanges [.draws, .a, .n, .z] s (andXUnstable imm s) :=
  onlyChanges_trans (nextDraw_onlyChanges s) (loadA_onlyChanges _ _)

theorem andThenRor_onlyChanges (imm : Byte) (s : State) : OnlyChanges [.a, .n, .v, .z, .c] s (andThenRor imm s) :=
  accumulate_onlyChanges (arrByMode_flagsOnlyChange s.a imm s.p)

theorem orConstThenAnd_onlyChanges (imm : Byte) (s : State) :
    OnlyChanges [.x, .a, .n, .z] s (orConstThenAnd imm s) :=
  onlyChanges_trans (setX_onlyChanges s _) (loadA_onlyChanges _ _)

theorem andXSubtract_onlyChanges (imm : Byte) (s : State) : OnlyChanges [.x, .n, .z, .c] s (andXSubtract imm s) :=
  onlyChanges_trans (setX_onlyChanges s _) (setP_onlyChanges (compareFlags_flagsOnlyChange _ imm s.p))

end Sys2Proof.Proofs
end

section
/-! Proofs, part 2: the family of 10_state.md. The state after reset, the status byte, and which instructions write
which part of the state. -/

namespace Sys2Proof.Proofs

open Sys2Proof Sys2Proof.Machine Sys2Proof.Claims

/-! ### The state after reset -/

/-- Power-on takes the memory it is given, so it keeps that memory's form. -/
theorem powerOn_wf {m : Memory} (h : m.wf = true) : (State.powerOn m).wf = true := h

/-- Settles O2: power-on keeps the form of its memory, and the memory of State.reset has the form. -/
theorem resetStateIsCanonical : Obligations.ResetStateIsCanonical :=
  ⟨powerOn_wf Memory.wf_empty, fun _ => powerOn_wf⟩

/-! ### The status byte (10_state.md R25, R28) -/

/-- A bit appended on the right doubles the number and is added. -/
theorem toNat_append_ofBool {n : Nat} (x : BitVec n) (b : Bool) :
    (x ++ BitVec.ofBool b).toNat = 2 * x.toNat + b.toNat := by
  have hb : (BitVec.ofBool b).toNat = b.toNat := BitVec.toNat_ofBool b
  rw [BitVec.toNat_append, ← Nat.shiftLeft_add_eq_or_of_lt (BitVec.ofBool b).isLt, Nat.shiftLeft_eq, hb]
  omega

/-- The byte image of the flags is the sum of its bits. -/
theorem pbyte_toNat (b : Bool) (p : Status) : (pbyte b p).toNat = statusValue b p := by
  have hone : (1#1 : BitVec 1) = BitVec.ofBool true := rfl
  have hn : (BitVec.ofBool p.n).toNat = p.n.toNat := BitVec.toNat_ofBool p.n
  simp only [pbyte, statusValue, hone, toNat_append_ofBool, hn, Bool.toNat_true]
  omega

/-- Bits 5 and 4 of a byte have no part in the flags read from it. -/
theorem statusOfByte_and_mask (v : Byte) : statusOfByte (v &&& 0xCF) = statusOfByte v := by
  simp [statusOfByte]

/-- Settles O6: the layout by `pbyte_toNat`, the pull of two bytes that agree under the mask by
`statusOfByte_and_mask`. -/
theorem statusByteLayout : Obligations.StatusByteLayout := by
  refine ⟨fun b p => ⟨pbyte_toNat b p, statusOfByte_pbyte b p⟩, fun _ => rfl, fun v w hvw => ?_⟩
  calc statusOfByte v = statusOfByte (v &&& 0xCF) := (statusOfByte_and_mask v).symm
    _ = statusOfByte (w &&& 0xCF) := by rw [hvw]
    _ = statusOfByte w := statusOfByte_and_mask w

/-! ### Which instructions write which part (10_state.md R26 to R38) -/

/-- The spec lets the opcode write the part: the list of the part's writers has it. The parts that no list is given for
(pc, the inputs, the parameters, the draws) are not restricted. -/
def mayWrite (op : Byte) : Part → Bool
  | .a => decide (op ∈ opcodesWritingA)
  | .x => decide (op ∈ opcodesWritingX)
  | .y => decide (op ∈ opcodesWritingY)
  | .sp => decide (op ∈ opcodesWritingS)
  | .mem => decide (op ∈ opcodesWritingMemory)
  | .n | .z => decide (op ∈ opcodesWritingNZ)
  | .v => decide (op ∈ opcodesWritingV)
  | .d => decide (op ∈ opcodesWritingD)
  | .i => decide (op ∈ opcodesWritingI)
  | .c => decide (op ∈ opcodesWritingC)
  | .halted => decide (op ∈ opcodesHalting)
  | .pc | .nmiPending | .irqLine | .resetLine | .inputs | .params | .draws => true

/-- The instruction completes with a frame all of whose parts its opcode may write. -/
def HasNamedFrame (i : Instr) (s : State) : Prop :=
  ∃ t parts, exec i s = .next t ∧ OnlyChanges parts s t ∧ parts.all (mayWrite (opcodeOf i)) = true

/-- How a case of `exec_hasNamedFrame` is made: from the state the meaning answers and the frame of its operation. That
the opcode may write the frame's parts is computed from the spec's lists, once the opcode is a numeral. -/
theorem hasNamedFrame_of {i : Instr} {s t : State} {parts : List Part} (hexec : exec i s = .next t)
    (hframe : OnlyChanges parts s t)
    (hnamed : parts.all (mayWrite (opcodeOf i)) = true := by
      dsimp only [opcodeOf, encode, List.headD]; decide +kernel) :
    HasNamedFrame i s := ⟨t, parts, hexec, hframe, hnamed⟩

/-- Every instruction completes within what its opcode may write. The cases are grouped by the operation the
instruction's meaning calls; its frame is that operation's. -/
theorem exec_hasNamedFrame (i : Instr) (s : State) : HasNamedFrame i s := by
  cases i with
  | ldaIzx | ldaZp | ldaImm | ldaAbs | ldaIzy | ldaZpx | ldaAby | ldaAbx | txa | tya =>
    exact hasNamedFrame_of rfl (loadA_onlyChanges _ s)
  | dex | inx | ldxImm | ldxZp | ldxAbs | ldxZpy | ldxAby | tax | tsx =>
    exact hasNamedFrame_of rfl (loadX_onlyChanges _ s)
  | dey | iny | ldyImm | ldyZp | ldyAbs | ldyZpx | ldyAbx | tay =>
    exact hasNamedFrame_of rfl (loadY_onlyChanges _ s)
  | saxIzx | saxZp | saxAbs | saxZpy | staIzx | staZp | staAbs | staIzy | staZpx | staAby | staAbx | stxZp | stxAbs
  | stxZpy | styZp | styAbs | styZpx =>
    exact hasNamedFrame_of rfl (write_onlyChanges s _ _)
  | pha | php =>
    exact hasNamedFrame_of rfl (push_onlyChanges s _)
  | pla =>
    exact hasNamedFrame_of rfl (pullA_onlyChanges s)
  | plp =>
    exact hasNamedFrame_of rfl (pullStatus_onlyChanges s)
  | txs =>
    exact hasNamedFrame_of rfl (setSp_onlyChanges s _)
  | adcIzx | adcZp | adcImm | adcAbs | adcIzy | adcZpx | adcAby | adcAbx =>
    exact hasNamedFrame_of rfl (addWithCarry_onlyChanges _ s)
  | sbcIzx | sbcZp | sbcImm | sbcImmEB | sbcAbs | sbcIzy | sbcZpx | sbcAby | sbcAbx =>
    exact hasNamedFrame_of rfl (subtractWithBorrow_onlyChanges _ s)
  | andIzx | andZp | andImm | andAbs | andIzy | andZpx | andAby | andAbx =>
    exact hasNamedFrame_of rfl (andA_onlyChanges _ s)
  | oraIzx | oraZp | oraImm | oraAbs | oraIzy | oraZpx | oraAby | oraAbx =>
    exact hasNamedFrame_of rfl (orA_onlyChanges _ s)
  | eorIzx | eorZp | eorImm | eorAbs | eorIzy | eorZpx | eorAby | eorAbx =>
    exact hasNamedFrame_of rfl (xorA_onlyChanges _ s)
  | bitZp | bitAbs =>
    exact hasNamedFrame_of rfl (bitTest_onlyChanges _ s)
  | cmpIzx | cmpZp | cmpImm | cmpAbs | cmpIzy | cmpZpx | cmpAby | cmpAbx =>
    exact hasNamedFrame_of rfl (compareA_onlyChanges _ s)
  | cpxImm | cpxZp | cpxAbs =>
    exact hasNamedFrame_of rfl (compareX_onlyChanges _ s)
  | cpyImm | cpyZp | cpyAbs =>
    exact hasNamedFrame_of rfl (compareY_onlyChanges _ s)
  | aslZp | aslAbs | aslZpx | aslAbx =>
    exact hasNamedFrame_of rfl (modifyMem_onlyChanges aslCore_flagsOnlyChange _ s)
  | aslAcc =>
    exact hasNamedFrame_of rfl (modifyA_onlyChanges aslCore_flagsOnlyChange s)
  | lsrZp | lsrAbs | lsrZpx | lsrAbx =>
    exact hasNamedFrame_of rfl (modifyMem_onlyChanges lsrCore_flagsOnlyChange _ s)
  | lsrAcc =>
    exact hasNamedFrame_of rfl (modifyA_onlyChanges lsrCore_flagsOnlyChange s)
  | rolZp | rolAbs | rolZpx | rolAbx =>
    exact hasNamedFrame_of rfl (modifyMem_onlyChanges rolCore_flagsOnlyChange _ s)
  | rolAcc =>
    exact hasNamedFrame_of rfl (modifyA_onlyChanges rolCore_flagsOnlyChange s)
  | rorZp | rorAbs | rorZpx | rorAbx =>
    exact hasNamedFrame_of rfl (modifyMem_onlyChanges rorCore_flagsOnlyChange _ s)
  | rorAcc =>
    exact hasNamedFrame_of rfl (modifyA_onlyChanges rorCore_flagsOnlyChange s)
  | incZp | incAbs | incZpx | incAbx =>
    exact hasNamedFrame_of rfl (modifyMem_onlyChanges incCore_flagsOnlyChange _ s)
  | decZp | decAbs | decZpx | decAbx =>
    exact hasNamedFrame_of rfl (modifyMem_onlyChanges decCore_flagsOnlyChange _ s)
  | bcc | bcs | beq | bmi | bne | bpl | bvc | bvs =>
    exact hasNamedFrame_of rfl (branch_onlyChanges _ _ s)
  | jmpAdr | jmpInd =>
    exact hasNamedFrame_of rfl (setPc_onlyChanges s _)
  | jsr =>
    exact hasNamedFrame_of rfl (callSubroutine_onlyChanges _ s)
  | rts =>
    exact hasNamedFrame_of rfl (returnFromSubroutine_onlyChanges s)
  | brk =>
    exact hasNamedFrame_of rfl (trapEntry_onlyChanges s _ _ _)
  | rti =>
    exact hasNamedFrame_of rfl (returnFromTrap_onlyChanges s)
  | clc | sec =>
    exact hasNamedFrame_of rfl (setP_onlyChanges (setC_flagsOnlyChange _ s.p))
  | cld | sed =>
    exact hasNamedFrame_of rfl (setP_onlyChanges (setD_flagsOnlyChange _ s.p))
  | cli | sei =>
    exact hasNamedFrame_of rfl (setP_onlyChanges (setI_flagsOnlyChange _ s.p))
  | clv =>
    exact hasNamedFrame_of rfl (setP_onlyChanges (setV_flagsOnlyChange _ s.p))
  | nop04 | nop0C | nop14 | nop1C | nop34 | nop3C | nop44 | nop54 | nop5C | nop64 | nop74 | nop7C | nopD4 | nopDC
  | nopF4 | nopFC | nop1A | nop3A | nop5A | nop7A | nop80 | nop89 | nopDA | nop | nopFA | nop80Imm | nop82Imm
  | nopC2Imm | nopE2Imm =>
    exact hasNamedFrame_of rfl (onlyChanges_refl s)
  | hlt02 | hlt12 | hlt22 | hlt32 | hlt42 | hlt52 | hlt62 | hlt72 | hlt82 | hlt92 | hltB2 | hltC2 | hltD2 | hltE2
  | hltF2 =>
    exact hasNamedFrame_of rfl (halt_onlyChanges s)
  | asoIzx | asoZp | asoAbs | asoIzy | asoZpx | asoAby | asoAbx =>
    exact hasNamedFrame_of rfl (modifyMemThen_onlyChanges aslCore_flagsOnlyChange orA_onlyChanges _ s)
  | rlaIzx | rlaZp | rlaAbs | rlaIzy | rlaZpx | rlaAby | rlaAbx =>
    exact hasNamedFrame_of rfl (modifyMemThen_onlyChanges rolCore_flagsOnlyChange andA_onlyChanges _ s)
  | lseIzx | lseZp | lseAbs | lseIzy | lseZpx | lseAby | lseAbx =>
    exact hasNamedFrame_of rfl (modifyMemThen_onlyChanges lsrCore_flagsOnlyChange xorA_onlyChanges _ s)
  | rraIzx | rraZp | rraAbs | rraIzy | rraZpx | rraAby | rraAbx =>
    exact hasNamedFrame_of rfl (modifyMemThen_onlyChanges rorCore_flagsOnlyChange addWithCarry_onlyChanges _ s)
  | dcmIzx | dcmZp | dcmAbs | dcmIzy | dcmZpx | dcmAby | dcmAbx =>
    exact hasNamedFrame_of rfl (modifyMemThen_onlyChanges decCore_flagsOnlyChange compareA_onlyChanges _ s)
  | insIzx | insZp | insAbs | insIzy | insZpx | insAby | insAbx =>
    exact hasNamedFrame_of rfl (modifyMemThen_onlyChanges incCore_flagsOnlyChange subtractWithBorrow_onlyChanges _ s)
  | laxIzx | laxZp | laxAbs | laxIzy | laxZpy | laxAby =>
    exact hasNamedFrame_of rfl (loadAX_onlyChanges _ s)
  | las =>
    exact hasNamedFrame_of rfl (loadASX_onlyChanges _ s)
  | shaIzy | shaAby | shx | shy =>
    exact hasNamedFrame_of rfl (shStore_onlyChanges _ _ _ s)
  | shs =>
    exact hasNamedFrame_of rfl (onlyChanges_trans (setSp_onlyChanges s _) (shStore_onlyChanges _ _ _ _))
  | alr =>
    exact hasNamedFrame_of rfl (andThenLsr_onlyChanges _ s)
  | anc0B | anc2B =>
    exact hasNamedFrame_of rfl (andThenCarry_onlyChanges _ s)
  | ane =>
    exact hasNamedFrame_of rfl (andXUnstable_onlyChanges _ s)
  | arr =>
    exact hasNamedFrame_of rfl (andThenRor_onlyChanges _ s)
  | lxa =>
    exact hasNamedFrame_of rfl (orConstThenAnd_onlyChanges _ s)
  | sbx =>
    exact hasNamedFrame_of rfl (andXSubtract_onlyChanges _ s)

/-- A part that an instruction changes is one its opcode may write. -/
theorem mayWrite_of_exec {i : Instr} {s t : State} (h : exec i s = .next t) {q : Part} (hq : ¬ SamePart s t q) :
    mayWrite (opcodeOf i) q = true := by
  obtain ⟨u, parts, hu, hframe, hnamed⟩ := exec_hasNamedFrame i s
  obtain rfl : u = t := Host.Outcome.next.inj (hu.symm.trans h)
  exact List.all_eq_true.mp hnamed q (Decidable.not_not.mp (mt (hframe q) hq))

/-- Settles O59: each clause is `mayWrite_of_exec` at its part. -/
theorem onlyTheNamedInstructionsWrite : Obligations.OnlyTheNamedInstructionsWrite := by
  intro i s t h
  have named (q : Part) (hq : ¬ SamePart s t q) : mayWrite (opcodeOf i) q = true := mayWrite_of_exec h hq
  exact ⟨fun ha => of_decide_eq_true (named .a ha), fun hx => of_decide_eq_true (named .x hx),
    fun hy => of_decide_eq_true (named .y hy), fun hsp => of_decide_eq_true (named .sp hsp),
    fun hmem => of_decide_eq_true (named .mem (not_forall.mpr hmem)),
    fun hn => of_decide_eq_true (named .n hn), fun hz => of_decide_eq_true (named .z hz),
    fun hv => of_decide_eq_true (named .v hv), fun hd => of_decide_eq_true (named .d hd),
    fun hi => of_decide_eq_true (named .i hi), fun hc => of_decide_eq_true (named .c hc),
    fun hhalted => of_decide_eq_true (named .halted hhalted)⟩

end Sys2Proof.Proofs
end

section
/-! Proofs, part 3: the family of 20_memory.md. Every step keeps memory canonical and the parameters as they are, a read
gives the latest write, and the stack lies in page 1. -/

namespace Sys2Proof.Proofs

open Sys2Proof Sys2Proof.Machine Sys2Proof.Claims

/-! ### What keeps memory canonical and the parameters as they are -/

/-- From `s` to `t` a canonical memory stays canonical, and the parameters are the same. Memory's form is not one of the
parts of `OnlyChanges`, which compares memories by what they read as. -/
def KeepsInvariant (s t : State) : Prop := (s.wf = true → t.wf = true) ∧ t.params = s.params

theorem keepsInvariant_trans {s t u : State} (h : KeepsInvariant s t) (h' : KeepsInvariant t u) :
    KeepsInvariant s u := by
  obtain ⟨hwf, hparams⟩ := h
  obtain ⟨hwf', hparams'⟩ := h'
  exact ⟨fun hs => hwf' (hwf hs), hparams'.trans hparams⟩

/-- Whatever leaves memory and parameters alone keeps the invariant. -/
theorem keepsInvariant_of_eq {s t : State} (hmem : t.mem = s.mem) (hparams : t.params = s.params) :
    KeepsInvariant s t :=
  ⟨fun hs => (congrArg Memory.wf hmem).trans hs, hparams⟩

theorem write_keepsInvariant (s : State) (a : Addr) (v : Byte) : KeepsInvariant s (s.write a v) :=
  ⟨s.write_wf a v, s.write_params a v⟩

theorem push_keepsInvariant (s : State) (v : Byte) : KeepsInvariant s (s.push v) :=
  ⟨s.push_wf v, s.push_params v⟩

theorem modifyMem_keepsInvariant (s : State) (core : Byte → Status → Byte × Status) (ea : Addr) :
    KeepsInvariant s (s.modifyMem core ea) :=
  ⟨s.modifyMem_wf core ea, s.modifyMem_params core ea⟩

/-- The second operation of an undocumented combination works on registers only (45_undoc_rmw.md R220). -/
theorem modifyMemThen_keepsInvariant (s : State) (core : Byte → Status → Byte × Status)
    {second : Byte → State → State} (hmem : ∀ v t, (second v t).mem = t.mem)
    (hparams : ∀ v t, (second v t).params = t.params) (ea : Addr) :
    KeepsInvariant s (s.modifyMemThen core second ea) :=
  keepsInvariant_trans (modifyMem_keepsInvariant s core ea) (keepsInvariant_of_eq (hmem _ _) (hparams _ _))

theorem trapEntry_keepsInvariant (s : State) (ret : Addr) (status : Byte) (vec : Addr) :
    KeepsInvariant s (s.trapEntry ret status vec) :=
  ⟨s.trapEntry_wf ret status vec, s.trapEntry_params ret status vec⟩

theorem nmiEntry_keepsInvariant (s : State) : KeepsInvariant s s.nmiEntry :=
  keepsInvariant_trans (keepsInvariant_of_eq (s.setNmiPending_mem false) (s.setNmiPending_params false))
    (trapEntry_keepsInvariant _ _ _ _)

theorem callSubroutine_keepsInvariant (target : Addr) (s : State) : KeepsInvariant s (callSubroutine target s) := by
  have hpushes : KeepsInvariant s (s.push16 (s.pc - 1)) := ⟨s.push16_wf _, s.push16_params _⟩
  exact keepsInvariant_trans hpushes (keepsInvariant_of_eq (State.setPc_mem _ target) (State.setPc_params _ target))

theorem branch_keepsInvariant (cond : Bool) (b1 : Byte) (s : State) : KeepsInvariant s (branch cond b1 s) := by
  rw [branch_eq]
  exact keepsInvariant_of_eq rfl rfl

theorem shStore_keepsInvariant (reg : Byte) (base ea : Addr) (s : State) :
    KeepsInvariant s (shStore reg base ea s) :=
  keepsInvariant_trans (write_keepsInvariant s _ _)
    (keepsInvariant_of_eq (State.afterShDraw_mem _) (State.afterShDraw_params _))

/-! ### Every instruction and every step -/

/-- Every instruction completes and keeps the invariant. Named are the instructions that write memory, by the operation
that writes it, and the branches, whose meaning is a choice of two states; the others leave memory as it is. -/
theorem exec_keepsInvariant (i : Instr) (s : State) : ∃ t, exec i s = .next t ∧ KeepsInvariant s t := by
  cases i with
  | saxIzx | saxZp | saxAbs | saxZpy | staIzx | staZp | staAbs | staIzy | staZpx | staAby | staAbx | stxZp | stxAbs
  | stxZpy | styZp | styAbs | styZpx =>
    exact ⟨_, rfl, write_keepsInvariant s _ _⟩
  | pha | php =>
    exact ⟨_, rfl, push_keepsInvariant s _⟩
  | aslZp | aslAbs | aslZpx | aslAbx | lsrZp | lsrAbs | lsrZpx | lsrAbx | rolZp | rolAbs | rolZpx | rolAbx | rorZp
  | rorAbs | rorZpx | rorAbx | incZp | incAbs | incZpx | incAbx | decZp | decAbs | decZpx | decAbx =>
    exact ⟨_, rfl, modifyMem_keepsInvariant s _ _⟩
  | asoIzx | asoZp | asoAbs | asoIzy | asoZpx | asoAby | asoAbx | rlaIzx | rlaZp | rlaAbs | rlaIzy | rlaZpx | rlaAby
  | rlaAbx | lseIzx | lseZp | lseAbs | lseIzy | lseZpx | lseAby | lseAbx | rraIzx | rraZp | rraAbs | rraIzy | rraZpx
  | rraAby | rraAbx | dcmIzx | dcmZp | dcmAbs | dcmIzy | dcmZpx | dcmAby | dcmAbx | insIzx | insZp | insAbs | insIzy
  | insZpx | insAby | insAbx =>
    exact ⟨_, rfl, modifyMemThen_keepsInvariant s _ (fun _ _ => rfl) (fun _ _ => rfl) _⟩
  | jsr =>
    exact ⟨_, rfl, callSubroutine_keepsInvariant _ s⟩
  | brk =>
    exact ⟨_, rfl, trapEntry_keepsInvariant s _ _ _⟩
  | shaIzy | shaAby | shx | shy =>
    exact ⟨_, rfl, shStore_keepsInvariant _ _ _ s⟩
  | shs =>
    exact ⟨_, rfl, keepsInvariant_trans (keepsInvariant_of_eq (s.setSp_mem _) (s.setSp_params _))
      (shStore_keepsInvariant _ _ _ _)⟩
  | bcc | bcs | beq | bmi | bne | bpl | bvc | bvs =>
    exact ⟨_, rfl, branch_keepsInvariant _ _ s⟩
  | _ => exact ⟨_, rfl, keepsInvariant_of_eq rfl rfl⟩

/-- Every answer of an instruction keeps the invariant, since it has only one. -/
theorem keepsInvariant_of_exec {i : Instr} {s t : State} (h : exec i s = .next t) : KeepsInvariant s t := by
  obtain ⟨u, hu, hkeeps⟩ := exec_keepsInvariant i s
  obtain rfl : u = t := Host.Outcome.next.inj (hu.symm.trans h)
  exact hkeeps

/-- An instruction that runs is the one the bytes at pc decode to, from the state whose pc is NextPC (30_encoding.md
R108). -/
theorem runInstruction_cases {s t : State} (h : s.runInstruction = .next t) :
    ∃ i rest, decode s.params s.fetch = .instr i rest ∧ exec i (s.setPc s.nextPc) = .next t := by
  unfold State.runInstruction at h
  split at h
  case h_1 i rest hdecode => exact ⟨i, rest, hdecode, h⟩
  case h_2 => cases h

/-- Moving pc to NextPC touches neither memory nor parameters, and the instruction keeps the invariant. -/
theorem runInstruction_keepsInvariant {s t : State} (h : s.runInstruction = .next t) : KeepsInvariant s t := by
  obtain ⟨i, -, -, hexec⟩ := runInstruction_cases h
  exact keepsInvariant_trans (keepsInvariant_of_eq (s.setPc_mem _) (s.setPc_params _)) (keepsInvariant_of_exec hexec)

/-- All that a step can do once the inputs are sampled, in the order of priority (60_exceptions.md R270). -/
theorem step_cases {s t : State} (h : step s = .next t) :
    (s.sampleInputs.resetLine = true ∧ t = s.sampleInputs.resetEvent) ∨
    (s.sampleInputs.resetLine = false ∧ s.halted = true ∧ t = s.sampleInputs) ∨
    (s.sampleInputs.resetLine = false ∧ s.halted = false ∧ s.sampleInputs.nmiPending = true ∧
      t = s.sampleInputs.nmiEntry) ∨
    (s.sampleInputs.resetLine = false ∧ s.halted = false ∧ s.sampleInputs.nmiPending = false ∧
      s.sampleInputs.irqAccepted = true ∧ t = s.sampleInputs.irqEntry) ∨
    (s.sampleInputs.resetLine = false ∧ s.halted = false ∧ s.sampleInputs.nmiPending = false ∧
      s.sampleInputs.irqAccepted = false ∧ s.sampleInputs.runInstruction = .next t) := by
  have answer {u : State} (hu : step s = .next u) : t = u := Host.Outcome.next.inj (h.symm.trans hu)
  cases hreset : s.sampleInputs.resetLine with
  | true => exact .inl ⟨rfl, answer (step_reset s hreset)⟩
  | false =>
    cases hhalted : s.halted with
    | true => exact .inr (.inl ⟨rfl, rfl, answer (step_halted s hreset hhalted)⟩)
    | false =>
      cases hnmi : s.sampleInputs.nmiPending with
      | true => exact .inr (.inr (.inl ⟨rfl, rfl, rfl, answer (step_nmi s hreset hhalted hnmi)⟩))
      | false =>
        cases hirq : s.sampleInputs.irqAccepted with
        | true => exact .inr (.inr (.inr (.inl ⟨rfl, rfl, rfl, rfl, answer (step_irq s hreset hhalted hnmi hirq)⟩)))
        | false =>
          have hrun := (step_runInstruction s hreset hhalted hnmi hirq).symm.trans h
          exact .inr (.inr (.inr (.inr ⟨rfl, rfl, rfl, rfl, hrun⟩)))

/-- Settles O57: sampling leaves memory and parameters alone, and each thing a step can then do keeps the invariant. -/
theorem stepKeepsMemoryCanonicalAndParameters : Obligations.StepKeepsMemoryCanonicalAndParameters := by
  intro s t h
  have hsample : KeepsInvariant s s.sampleInputs := keepsInvariant_of_eq s.sampleInputs_mem s.sampleInputs_params
  refine keepsInvariant_trans hsample ?_
  rcases step_cases h with
    ⟨-, rfl⟩ | ⟨-, -, rfl⟩ | ⟨-, -, -, rfl⟩ | ⟨-, -, -, -, rfl⟩ | ⟨-, -, -, -, hrun⟩
  · exact keepsInvariant_of_eq (State.resetEvent_mem _) (State.resetEvent_params _)
  · exact keepsInvariant_of_eq rfl rfl
  · exact nmiEntry_keepsInvariant _
  · exact trapEntry_keepsInvariant _ _ _ _
  · exact runInstruction_keepsInvariant hrun

/-! ### Read after write (20_memory.md R50, R57, R60) -/

theorem write_storesOnly (s : State) (a : Addr) (v : Byte) : StoresOnly a v s (s.write a v) :=
  ⟨s.read_write_self a v, fun _ hb => s.read_write_ne v hb⟩

/-- Settles O3: the store by `write_storesOnly`; a fetch begins with the read of its first address. -/
theorem memoryReadAfterWrite : Obligations.MemoryReadAfterWrite := by
  refine fun s a v => ⟨write_storesOnly s a v, fun n => ?_⟩
  rw [State.bytesFrom_succ, State.read_write_self]

/-! ### The stack (20_memory.md R52) -/

/-- The stack address as a number: an offset into page 1. -/
theorem stackAddr_toNat (sp : Byte) : (stackAddr sp).toNat = 0x100 + sp.toNat := cat_toNat stackPage sp

theorem push_storesOnly (s : State) (v : Byte) : StoresOnly (stackAddr s.sp) v s (s.push v) :=
  write_storesOnly s (stackAddr s.sp) v

theorem push_sp_toNat (s : State) (v : Byte) : (s.push v).sp.toNat = (s.sp.toNat + 255) % 256 := by
  rw [State.push_sp]
  bv_omega

theorem afterPull_sp_toNat (s : State) : s.afterPull.sp.toNat = (s.sp.toNat + 1) % 256 := by
  rw [State.afterPull_sp]
  bv_omega

/-- Settles O5: the stack's addresses, then what a push does, then what a pull does. -/
theorem stackLiesInPageOneAndWraps : Obligations.StackLiesInPageOneAndWraps := by
  refine ⟨stackAddr_toNat, fun s v => ⟨push_storesOnly s v, push_sp_toNat s v, ?_, ?_⟩⟩
  · exact onlyChanges_mono (push_onlyChanges s v) (by decide)
  · exact ⟨s.pulled_eq, afterPull_sp_toNat s, afterPull_onlyChanges s⟩

end Sys2Proof.Proofs
end

section
/-! Proofs, part 4: the family of 30_encoding.md. Decoder and encoder are inverse to each other, no opcode is illegal, a
step runs what its bytes decode to, and the addressing modes as numbers. -/

namespace Sys2Proof.Proofs

open Sys2Proof Sys2Proof.Machine Sys2Proof.Claims

/-! ### The decoder, format by format (30_encoding.md R80, R81, R83) -/

theorem decode_l1 {prm : Params} {op : Byte} {i : Instr} (h : opcodeForm prm op = some (.l1 i)) (rest : List Byte) :
    decode prm (op :: rest) = .instr i rest := by
  simp [decode, h]

theorem decode_l2 {prm : Params} {op : Byte} {mk : Byte → Instr} (h : opcodeForm prm op = some (.l2 mk)) (b1 : Byte)
    (rest : List Byte) : decode prm (op :: b1 :: rest) = .instr (mk b1) rest := by
  simp [decode, h]

theorem decode_l3 {prm : Params} {op : Byte} {mk : Byte → Byte → Instr} (h : opcodeForm prm op = some (.l3 mk))
    (b1 b2 : Byte) (rest : List Byte) : decode prm (op :: b1 :: b2 :: rest) = .instr (mk b1 b2) rest := by
  simp [decode, h]

theorem opcodeLength_of_opcodeForm {prm : Params} {op : Byte} {f : Form} (h : opcodeForm prm op = some f) :
    opcodeLength prm op = f.length := by
  simp [opcodeLength, h]

/-! ### The opcode map, cell by cell (30_encoding.md R99) -/

/-- A cell of the opcode map is right for its opcode: whatever the operand bytes, the cell's instruction is one that the
parameters have, and it is encoded by the opcode and the operand bytes. Where the parameters do not matter, both are
computed from the model's tables. -/
inductive CellSound (prm : Params) (op : Byte) : Form → Prop where
  | l1 {i : Instr} (bytes : encode i = [op] := by rfl) (wf : i.wellFormed prm = true := by rfl) :
      CellSound prm op (.l1 i)
  | l2 {mk : Byte → Instr} (bytes : ∀ b1, encode (mk b1) = [op, b1] := by intro _; rfl)
      (wf : ∀ b1, (mk b1).wellFormed prm = true := by intro _; rfl) : CellSound prm op (.l2 mk)
  | l3 {mk : Byte → Byte → Instr} (bytes : ∀ b1 b2, encode (mk b1 b2) = [op, b1, b2] := by intro _ _; rfl)
      (wf : ∀ b1 b2, (mk b1 b2).wellFormed prm = true := by intro _ _; rfl) : CellSound prm op (.l3 mk)

/-- The property holds of each element with its number, the first one's being `n`. Reducible, so that a tuple of the
elements' proofs is a proof. -/
@[reducible] def HoldsFrom {α : Type} (P : Nat → α → Prop) : Nat → List α → Prop
  | _, [] => True
  | n, x :: xs => P n x ∧ HoldsFrom P (n + 1) xs

theorem getElem?_of_holdsFrom {α : Type} {P : Nat → α → Prop} {n k : Nat} {xs : List α} (h : HoldsFrom P n xs)
    (hk : k < xs.length) : ∃ x, xs[k]? = some x ∧ P (n + k) x := by
  induction xs generalizing n k with
  | nil => simp at hk
  | cons x xs ih =>
    obtain ⟨hx, hxs⟩ := h
    cases k with
    | zero => exact ⟨x, rfl, hx⟩
    | succ k =>
      obtain ⟨y, hy, hP⟩ := ih hxs (Nat.lt_of_succ_lt_succ hk)
      exact ⟨y, by simpa using hy, by rwa [Nat.add_right_comm] at hP⟩

/-- Row `r` of the map has a cell for each of its sixteen opcodes, and each cell is right for its opcode. -/
structure RowSound (prm : Params) (r : Nat) (row : List Form) : Prop where
  width : row.length = 16
  cells : HoldsFrom (fun n f => CellSound prm (BitVec.ofNat 8 n) f) (16 * r) row

theorem form80_sound (prm : Params) : CellSound prm 0x80 (form80 prm.opc80Form) := by
  cases h : prm.opc80Form with
  | implied1 => exact .l1 rfl (beq_iff_eq.mpr h)
  | immediate2 => exact .l2 (fun _ => rfl) (fun _ => beq_iff_eq.mpr h)

/-- A cell that `JAM3_FORM` chooses is right if it is right under each value (30_encoding.md R102). -/
theorem cellSound_of_jam3 {prm : Params} {op : Byte} {form : Jam3Form → Form}
    (hhlt : prm.jam3Form = .hlt → CellSound prm op (form .hlt))
    (hnop : prm.jam3Form = .nopImmediate2 → CellSound prm op (form .nopImmediate2)) :
    CellSound prm op (form prm.jam3Form) := by
  cases h : prm.jam3Form with
  | hlt => exact hhlt h
  | nopImmediate2 => exact hnop h

theorem form82_sound (prm : Params) : CellSound prm 0x82 (form82 prm.jam3Form) :=
  cellSound_of_jam3 (fun h => .l1 rfl (beq_iff_eq.mpr h)) (fun h => .l2 (fun _ => rfl) fun _ => beq_iff_eq.mpr h)

theorem formC2_sound (prm : Params) : CellSound prm 0xC2 (formC2 prm.jam3Form) :=
  cellSound_of_jam3 (fun h => .l1 rfl (beq_iff_eq.mpr h)) (fun h => .l2 (fun _ => rfl) fun _ => beq_iff_eq.mpr h)

theorem formE2_sound (prm : Params) : CellSound prm 0xE2 (formE2 prm.jam3Form) :=
  cellSound_of_jam3 (fun h => .l1 rfl (beq_iff_eq.mpr h)) (fun h => .l2 (fun _ => rfl) fun _ => beq_iff_eq.mpr h)

/-- The opcode map is right row by row: per cell its format (30_encoding.md R81), from which the cell's default proofs
compute, or the lemma of a cell that the parameters choose. -/
theorem opcodeGrid_sound (prm : Params) : HoldsFrom (RowSound prm) 0x0 (opcodeGrid prm) :=
  ⟨⟨rfl, .l2, .l2, .l1, .l2, .l2, .l2, .l2, .l2, .l1, .l2, .l1, .l2, .l3, .l3, .l3, .l3, trivial⟩,
   ⟨rfl, .l2, .l2, .l1, .l2, .l2, .l2, .l2, .l2, .l1, .l3, .l1, .l3, .l3, .l3, .l3, .l3, trivial⟩,
   ⟨rfl, .l3, .l2, .l1, .l2, .l2, .l2, .l2, .l2, .l1, .l2, .l1, .l2, .l3, .l3, .l3, .l3, trivial⟩,
   ⟨rfl, .l2, .l2, .l1, .l2, .l2, .l2, .l2, .l2, .l1, .l3, .l1, .l3, .l3, .l3, .l3, .l3, trivial⟩,
   ⟨rfl, .l1, .l2, .l1, .l2, .l2, .l2, .l2, .l2, .l1, .l2, .l1, .l2, .l3, .l3, .l3, .l3, trivial⟩,
   ⟨rfl, .l2, .l2, .l1, .l2, .l2, .l2, .l2, .l2, .l1, .l3, .l1, .l3, .l3, .l3, .l3, .l3, trivial⟩,
   ⟨rfl, .l1, .l2, .l1, .l2, .l2, .l2, .l2, .l2, .l1, .l2, .l1, .l2, .l3, .l3, .l3, .l3, trivial⟩,
   ⟨rfl, .l2, .l2, .l1, .l2, .l2, .l2, .l2, .l2, .l1, .l3, .l1, .l3, .l3, .l3, .l3, .l3, trivial⟩,
   ⟨rfl, form80_sound prm, .l2, form82_sound prm, .l2, .l2, .l2, .l2, .l2, .l1, .l2, .l1, .l2, .l3, .l3, .l3, .l3,
    trivial⟩,
   ⟨rfl, .l2, .l2, .l1, .l2, .l2, .l2, .l2, .l2, .l1, .l3, .l1, .l3, .l3, .l3, .l3, .l3, trivial⟩,
   ⟨rfl, .l2, .l2, .l2, .l2, .l2, .l2, .l2, .l2, .l1, .l2, .l1, .l2, .l3, .l3, .l3, .l3, trivial⟩,
   ⟨rfl, .l2, .l2, .l1, .l2, .l2, .l2, .l2, .l2, .l1, .l3, .l1, .l3, .l3, .l3, .l3, .l3, trivial⟩,
   ⟨rfl, .l2, .l2, formC2_sound prm, .l2, .l2, .l2, .l2, .l2, .l1, .l2, .l1, .l2, .l3, .l3, .l3, .l3, trivial⟩,
   ⟨rfl, .l2, .l2, .l1, .l2, .l2, .l2, .l2, .l2, .l1, .l3, .l1, .l3, .l3, .l3, .l3, .l3, trivial⟩,
   ⟨rfl, .l2, .l2, formE2_sound prm, .l2, .l2, .l2, .l2, .l2, .l1, .l2, .l1, .l2, .l3, .l3, .l3, .l3, trivial⟩,
   ⟨rfl, .l2, .l2, .l1, .l2, .l2, .l2, .l2, .l2, .l1, .l3, .l1, .l3, .l3, .l3, .l3, .l3, trivial⟩,
   trivial⟩

/-- The map has a right cell for every opcode byte (30_encoding.md R100). -/
theorem opcodeForm_sound (prm : Params) (op : Byte) : ∃ f, opcodeForm prm op = some f ∧ CellSound prm op f := by
  have hop : op.toNat < 256 := op.isLt
  have hrow : op.toNat / 16 < (opcodeGrid prm).length := show op.toNat / 16 < 16 by omega
  obtain ⟨row, hgetRow, width, cells⟩ := getElem?_of_holdsFrom (opcodeGrid_sound prm) hrow
  have hcell : op.toNat % 16 < row.length := by omega
  obtain ⟨f, hgetCell, hsound⟩ := getElem?_of_holdsFrom cells hcell
  have hnumber : 16 * (0 + op.toNat / 16) + op.toNat % 16 = op.toNat := by omega
  rw [hnumber, BitVec.ofNat_toNat, BitVec.setWidth_eq] at hsound
  exact ⟨f, by simp [opcodeForm, hgetRow, hgetCell], hsound⟩

/-! ### Decode after encode -/

theorem opcodeForm_80 {prm : Params} {v : Opc80Form} (h : prm.opc80Form = v) :
    opcodeForm prm 0x80 = some (form80 v) := h ▸ rfl

theorem opcodeForm_82 {prm : Params} {v : Jam3Form} (h : prm.jam3Form = v) :
    opcodeForm prm 0x82 = some (form82 v) := h ▸ rfl

theorem opcodeForm_C2 {prm : Params} {v : Jam3Form} (h : prm.jam3Form = v) :
    opcodeForm prm 0xC2 = some (formC2 v) := h ▸ rfl

theorem opcodeForm_E2 {prm : Params} {v : Jam3Form} (h : prm.jam3Form = v) :
    opcodeForm prm 0xE2 = some (formE2 v) := h ▸ rfl

/-- Settles O54, by cases over the instructions. Named are the two readings of the four opcodes whose cell depends on
the parameters (30_encoding.md R102, R103): well-formedness is the parameter's value, and that value fixes the cell. The
cell of every other opcode is the same for all parameters, so that decoding the encoding computes. -/
theorem decodeInvertsEncode : Obligations.DecodeInvertsEncode := by
  intro prm i rest h
  cases i with
  | nop80 => exact decode_l1 (opcodeForm_80 (eq_of_beq h)) rest
  | nop80Imm b1 => exact decode_l2 (opcodeForm_80 (eq_of_beq h)) b1 rest
  | hlt82 => exact decode_l1 (opcodeForm_82 (eq_of_beq h)) rest
  | nop82Imm b1 => exact decode_l2 (opcodeForm_82 (eq_of_beq h)) b1 rest
  | hltC2 => exact decode_l1 (opcodeForm_C2 (eq_of_beq h)) rest
  | nopC2Imm b1 => exact decode_l2 (opcodeForm_C2 (eq_of_beq h)) b1 rest
  | hltE2 => exact decode_l1 (opcodeForm_E2 (eq_of_beq h)) rest
  | nopE2Imm b1 => exact decode_l2 (opcodeForm_E2 (eq_of_beq h)) b1 rest
  | _ => rfl

/-- Settles O56: each word is the encoding of its instruction, which the nominal parameters have. -/
theorem writtenOutWordsDecode : Obligations.WrittenOutWordsDecode := by
  have decodes (i : Instr) (h : i.wellFormed Params.nominal = true) :
      decode Params.nominal (encode i ++ []) = .instr i [] := decodeInvertsEncode Params.nominal i [] h
  exact ⟨decodes (.ldaImm 0x12) rfl, decodes (.staAbs 0x34 0x12) rfl, decodes (.jmpInd 0xFF 0x30) rfl,
    decodes (.bne 0xFC) rfl, decodes (.brk 0xEA) rfl, decodes (.saxZpy 0x80) rfl, decodes (.asoAby 0x34 0x12) rfl,
    decodes (.arr 0x55) rfl, decodes .rolAcc rfl, decodes .hlt02 rfl⟩

/-! ### Encode after decode -/

/-- What the decoder reads is an instruction that the parameters have, encoded by the bytes taken, and of the length the
opcode map gives for the opcode. -/
theorem encode_of_decode {prm : Params} {op : Byte} {tail rest : List Byte} {i : Instr}
    (h : decode prm (op :: tail) = .instr i rest) :
    i.wellFormed prm = true ∧ encode i ++ rest = op :: tail ∧ (encode i).length = opcodeLength prm op := by
  obtain ⟨f, hf, hsound⟩ := opcodeForm_sound prm op
  rw [opcodeLength_of_opcodeForm hf]
  cases hsound with
  | l1 bytes wf =>
    obtain ⟨rfl, rfl⟩ := Decoded.instr.inj ((decode_l1 hf tail).symm.trans h)
    simp [bytes, wf, Form.length]
  | l2 bytes wf =>
    match tail with
    | [] => simp [decode, hf] at h
    | b1 :: tail =>
      obtain ⟨rfl, rfl⟩ := Decoded.instr.inj ((decode_l2 hf b1 tail).symm.trans h)
      simp [bytes, wf, Form.length]
  | l3 bytes wf =>
    match tail with
    | [] | [_] => simp [decode, hf] at h
    | b1 :: b2 :: tail =>
      obtain ⟨rfl, rfl⟩ := Decoded.instr.inj ((decode_l3 hf b1 b2 tail).symm.trans h)
      simp [bytes, wf, Form.length]

/-- Two bytes after the opcode are enough for every format. -/
theorem exists_decode_of_three_bytes (prm : Params) (op b1 b2 : Byte) :
    ∃ i rest, decode prm [op, b1, b2] = .instr i rest := by
  obtain ⟨f, hf, -⟩ := opcodeForm_sound prm op
  cases f with
  | l1 i => exact ⟨_, _, decode_l1 hf [b1, b2]⟩
  | l2 mk => exact ⟨_, _, decode_l2 hf b1 [b2]⟩
  | l3 mk => exact ⟨_, _, decode_l3 hf b1 b2 []⟩

/-- Settles O55: three bytes are enough to decode, what is decoded is encoded by them, and every instruction
completes. -/
theorem everyOpcodeDecodes : Obligations.EveryOpcodeDecodes := by
  intro prm op b1 b2
  obtain ⟨i, rest, hdecode⟩ := exists_decode_of_three_bytes prm op b1 b2
  obtain ⟨hwf, hbytes, -⟩ := encode_of_decode hdecode
  refine ⟨i, rest, hdecode, hwf, hbytes, fun s => ?_⟩
  obtain ⟨t, hexec, -⟩ := exec_keepsInvariant i s
  exact ⟨t, hexec⟩

/-! ### A step at a boundary that lets the instruction run (30_encoding.md R108) -/

/-- Bytes found at the front of memory's are those a fetch of as many bytes gives. -/
theorem bytesFrom_length_of_append_eq {s : State} {bytes rest : List Byte} {a : Addr} {n : Nat}
    (h : bytes ++ rest = s.bytesFrom a n) : s.bytesFrom a bytes.length = bytes := by
  induction bytes generalizing a n with
  | nil => rfl
  | cons b bytes ih =>
    cases n with
    | zero => cases h
    | succ n =>
      obtain ⟨hb, htail⟩ := List.cons.inj h
      rw [List.length_cons, State.bytesFrom_succ, ih htail, hb]

/-- If the three bytes at pc decode to an instruction, running from there is exec of it with pc moved past its bytes:
its bytes are the ones fetched, and decoding an encoding gives the instruction back. -/
theorem runInstruction_of_decode {s : State} {i : Instr} {rest : List Byte}
    (h : decode s.params (s.bytesFrom s.pc 3) = .instr i rest) :
    s.runInstruction = exec i (s.setPc (s.pc + BitVec.ofNat 16 (encode i).length)) := by
  obtain ⟨hwf, hbytes, hlength⟩ := encode_of_decode h
  have hfetch : s.fetch = encode i ++ [] := by
    rw [State.fetch, ← hlength, bytesFrom_length_of_append_eq (n := 3) hbytes, List.append_nil]
  have hdecode : decode s.params s.fetch = .instr i [] := hfetch ▸ decodeInvertsEncode s.params i [] hwf
  simp only [State.runInstruction, hdecode, State.nextPc, hlength]

/-- An IRQ that is not asserted, or that I masks, is not accepted (60_exceptions.md R264). -/
theorem irqAccepted_eq_false {q : State} (h : q.irqLine = false ∨ q.p.i = true) : q.irqAccepted = false := by
  rcases h with h | h <;> simp [State.irqAccepted, h]

/-- Settles O53: sampling the inputs changes neither pc nor the bytes there, and then `runInstruction_of_decode`. -/
theorem stepRunsTheDecodedInstruction : Obligations.StepRunsTheDecodedInstruction := by
  intro s i rest ⟨hreset, hhalted, hnmi, hirq⟩ hdecode
  have hsampled : decode s.sampleInputs.params (s.sampleInputs.bytesFrom s.sampleInputs.pc 3) = .instr i rest := by
    simpa [add_assoc] using hdecode
  rw [s.sampleInputs_halted] at hhalted
  rw [step_runInstruction s hreset hhalted hnmi (irqAccepted_eq_false hirq), runInstruction_of_decode hsampled,
    s.sampleInputs_pc]

/-! ### The addressing modes as numbers (30_encoding.md R87 to R97) -/

theorem zext_add_toNat (v w : Byte) : (zext (v + w)).toNat = (v.toNat + w.toNat) % 256 := by
  rw [zext_toNat, BitVec.toNat_add]

theorem indexed_toNat (base : Addr) (index : Byte) :
    (indexed base index).toNat = (base.toNat + index.toNat) % 65536 := by
  rw [indexed, BitVec.toNat_add, zext_toNat]

theorem eaAbs_toNat (b1 b2 : Byte) : (eaAbs b1 b2).toNat = b2.toNat * 256 + b1.toNat := cat_toNat b2 b1

/-- The pointer at `z` in the zero page: its high byte is read at `z + 1` modulo 256. -/
theorem zpPointer_toNat (z : Byte) (s : State) :
    (zpPointer z s).toNat =
      (s.read (BitVec.ofNat 16 ((z.toNat + 1) % 256))).toNat * 256 + (s.read (BitVec.ofNat 16 z.toNat)).toNat := by
  rw [zpPointer, cat_toNat, zext_eq_ofNat, zext_eq_ofNat, BitVec.toNat_add]
  rfl

theorem eaIzx_toNat (b1 : Byte) (s : State) :
    (eaIzx b1 s).toNat =
      (s.read (BitVec.ofNat 16 ((b1.toNat + s.x.toNat + 1) % 256))).toNat * 256 +
        (s.read (BitVec.ofNat 16 ((b1.toNat + s.x.toNat) % 256))).toNat := by
  rw [eaIzx, zpPointer_toNat, BitVec.toNat_add, Nat.mod_add_mod]

theorem pageCrossed_iff (base ea : Addr) : pageCrossed base ea = true ↔ ea.toNat / 256 ≠ base.toNat / 256 := by
  rw [pageCrossed, bne_iff_ne, ne_eq, BitVec.toNat_eq, hi_toNat, hi_toNat]

/-- The displacement is signed, and the target is modulo 65536. -/
theorem targetRel_toNat (b1 : Byte) (next : Addr) :
    ((targetRel b1 next).toNat : Int) = ((next.toNat : Int) + b1.toInt) % 65536 := by
  rw [targetRel, ← sext_toInt]
  have := (sext b1).isLt
  rw [BitVec.toNat_add, BitVec.toInt_eq_toNat_cond]
  split <;> omega

/-- Both bytes of the pointer of `ind` are read in the page `b2`. -/
theorem targetInd_toNat (b1 b2 : Byte) (s : State) :
    (targetInd b1 b2 s).toNat =
      (s.read (BitVec.ofNat 16 (b2.toNat * 256 + (b1.toNat + 1) % 256))).toNat * 256 +
        (s.read (BitVec.ofNat 16 (b2.toNat * 256 + b1.toNat))).toNat := by
  rw [targetInd, cat_toNat, cat_eq_ofNat, cat_eq_ofNat, BitVec.toNat_add]
  rfl

/-- Settles O4, mode by mode. -/
theorem effectiveAddressesOfTheModes : Obligations.EffectiveAddressesOfTheModes := by
  intro s b1 b2 next base
  refine ⟨zext_toNat b1, zext_add_toNat b1 s.x, zext_add_toNat b1 s.y, eaAbs_toNat b1 b2, ?abx, ?aby, eaIzx_toNat b1 s,
    zpPointer_toNat b1 s, indexed_toNat (baseIzy b1 s) s.y, pageCrossed_iff base next, targetRel_toNat b1 next,
    targetInd_toNat b1 b2 s⟩
  case abx => rw [eaAbx, indexed_toNat, eaAbs_toNat]
  case aby => rw [eaAby, indexed_toNat, eaAbs_toNat]

end Sys2Proof.Proofs
end

section
/-! Proofs, part 5: the family of 40_load_store_transfer.md. What each operation of the family does is said once; an
opcode's clause is that, at the operand, the address or the register its meaning names. -/

namespace Sys2Proof.Proofs

open Sys2Proof Sys2Proof.Machine Sys2Proof.Claims

/-- How each opcode's clause is made: from its bytes, the state its meaning answers, and what holds of that state. -/
theorem completes_of {i : Instr} {bytes : List Byte} {s t : State} {post : State → Prop} (hpost : post t)
    (hbytes : encode i = bytes := by rfl) (hexec : exec i s = .next t := by rfl) : Completes i bytes s post :=
  ⟨hbytes, t, hexec, hpost⟩

/-! ### Stores (40_load_store_transfer.md R137 to R139) -/

theorem storeA_spec (ea : Addr) (s : State) :
    StoresOnly ea s.a s (storeA ea s) ∧ OnlyChanges [.mem] s (storeA ea s) :=
  ⟨write_storesOnly s ea s.a, write_onlyChanges s ea s.a⟩

theorem storeX_spec (ea : Addr) (s : State) :
    StoresOnly ea s.x s (storeX ea s) ∧ OnlyChanges [.mem] s (storeX ea s) :=
  ⟨write_storesOnly s ea s.x, write_onlyChanges s ea s.x⟩

theorem storeY_spec (ea : Addr) (s : State) :
    StoresOnly ea s.y s (storeY ea s) ∧ OnlyChanges [.mem] s (storeY ea s) :=
  ⟨write_storesOnly s ea s.y, write_onlyChanges s ea s.y⟩

/-- Settles O8: STA, STX, STY in turn, each at the address of its mode. -/
theorem storesWriteOneByteAndNothingElse : Obligations.StoresWriteOneByteAndNothingElse := fun s b1 b2 =>
  ⟨completes_of (storeA_spec (eaIzx b1 s) s), completes_of (storeA_spec (eaZp b1) s),
    completes_of (storeA_spec (eaAbs b1 b2) s), completes_of (storeA_spec (eaIzy b1 s) s),
    completes_of (storeA_spec (eaZpx b1 s) s), completes_of (storeA_spec (eaAby b1 b2 s) s),
    completes_of (storeA_spec (eaAbx b1 b2 s) s),
    completes_of (storeX_spec (eaZp b1) s), completes_of (storeX_spec (eaAbs b1 b2) s),
    completes_of (storeX_spec (eaZpy b1 s) s),
    completes_of (storeY_spec (eaZp b1) s), completes_of (storeY_spec (eaAbs b1 b2) s),
    completes_of (storeY_spec (eaZpx b1 s) s)⟩

/-! ### Loads and transfers (40_load_store_transfer.md R130 to R132, R140 to R145) -/

/-- After SetNZ the flags N and Z are those of the byte it is given. -/
theorem setP_setNZ_flagsNZ (v : Byte) (s : State) (p : Status) : FlagsNZ v (s.setP (setNZ v p)) := by
  refine ⟨setNZ_n v p, ?_⟩
  rw [State.setP_p, setNZ_z, decide_eq_true_iff]

theorem loadA_spec (v : Byte) (s : State) :
    (loadA v s).a = v ∧ FlagsNZ v (loadA v s) ∧ OnlyChanges [.a, .n, .z] s (loadA v s) :=
  ⟨rfl, setP_setNZ_flagsNZ v _ s.p, loadA_onlyChanges v s⟩

theorem loadX_spec (v : Byte) (s : State) :
    (loadX v s).x = v ∧ FlagsNZ v (loadX v s) ∧ OnlyChanges [.x, .n, .z] s (loadX v s) :=
  ⟨rfl, setP_setNZ_flagsNZ v _ s.p, loadX_onlyChanges v s⟩

theorem loadY_spec (v : Byte) (s : State) :
    (loadY v s).y = v ∧ FlagsNZ v (loadY v s) ∧ OnlyChanges [.y, .n, .z] s (loadY v s) :=
  ⟨rfl, setP_setNZ_flagsNZ v _ s.p, loadY_onlyChanges v s⟩

/-- Settles O7: LDA, LDX, LDY in turn, each with the operand of its mode. -/
theorem loadsWriteTheirRegisterAndNZ : Obligations.LoadsWriteTheirRegisterAndNZ := fun s b1 b2 =>
  ⟨completes_of (loadA_spec (s.read (eaIzx b1 s)) s), completes_of (loadA_spec (s.read (eaZp b1)) s),
    completes_of (loadA_spec b1 s), completes_of (loadA_spec (s.read (eaAbs b1 b2)) s),
    completes_of (loadA_spec (s.read (eaIzy b1 s)) s), completes_of (loadA_spec (s.read (eaZpx b1 s)) s),
    completes_of (loadA_spec (s.read (eaAby b1 b2 s)) s), completes_of (loadA_spec (s.read (eaAbx b1 b2 s)) s),
    completes_of (loadX_spec b1 s), completes_of (loadX_spec (s.read (eaZp b1)) s),
    completes_of (loadX_spec (s.read (eaAbs b1 b2)) s), completes_of (loadX_spec (s.read (eaZpy b1 s)) s),
    completes_of (loadX_spec (s.read (eaAby b1 b2 s)) s),
    completes_of (loadY_spec b1 s), completes_of (loadY_spec (s.read (eaZp b1)) s),
    completes_of (loadY_spec (s.read (eaAbs b1 b2)) s), completes_of (loadY_spec (s.read (eaZpx b1 s)) s),
    completes_of (loadY_spec (s.read (eaAbx b1 b2 s)) s)⟩

/-- Settles O9: a transfer to A, X or Y is the load of the source's value; TXS writes S alone. -/
theorem transfersMoveARegister : Obligations.TransfersMoveARegister := fun s =>
  ⟨completes_of (loadX_spec s.a s), completes_of (loadY_spec s.a s), completes_of (loadX_spec s.sp s),
    completes_of (loadA_spec s.x s), completes_of ⟨s.setSp_sp s.x, setSp_onlyChanges s s.x⟩,
    completes_of (loadA_spec s.y s)⟩

/-! ### Pushes (40_load_store_transfer.md R133, R134) -/

theorem push_spec (s : State) (v : Byte) :
    StoresOnly (stackAddr s.sp) v s (s.push v) ∧ (s.push v).sp = s.sp - 1 ∧ OnlyChanges [.sp, .mem] s (s.push v) :=
  ⟨push_storesOnly s v, s.push_sp v, onlyChanges_mono (push_onlyChanges s v) (by decide)⟩

/-- The byte image of the flags is the byte whose number is the sum of its bits. -/
theorem ofNat_statusValue (b : Bool) (p : Status) : BitVec.ofNat 8 (statusValue b p) = pbyte b p := by
  rw [← pbyte_toNat, BitVec.ofNat_toNat, BitVec.setWidth_eq]

/-- Settles O10: PHP's byte is the image of the flags with bits 5 and 4 set. -/
theorem pushesOfAAndStatus : Obligations.PushesOfAAndStatus := by
  intro s
  rw [ofNat_statusValue]
  exact ⟨completes_of (push_spec s s.a), completes_of (push_spec s (pbyte true s.p))⟩

/-! ### Pulls (40_load_store_transfer.md R135, R136) -/

theorem pullA_spec (s : State) :
    (pullA s).a = s.pulled ∧ FlagsNZ s.pulled (pullA s) ∧ (pullA s).sp = s.sp + 1 ∧
      OnlyChanges [.a, .sp, .n, .z] s (pullA s) := by
  obtain ⟨ha, hflags, -⟩ := loadA_spec s.pulled s.afterPull
  exact ⟨ha, hflags, rfl, onlyChanges_mono (pullA_onlyChanges s) (by decide)⟩

theorem setP_statusOfByte_flagsFrom (v : Byte) (s : State) : FlagsFrom v (s.setP (statusOfByte v)) :=
  ⟨rfl, rfl, rfl, rfl, rfl, rfl⟩

/-- Settles O11: the byte pulled is the one at the new S, and PLP takes the flags from its bits. -/
theorem pullsOfAAndStatus : Obligations.PullsOfAAndStatus := by
  intro s
  rw [← s.pulled_eq]
  exact ⟨completes_of (pullA_spec s),
    completes_of ⟨setP_statusOfByte_flagsFrom s.pulled s.afterPull, s.afterPull_sp, pullStatus_onlyChanges s⟩⟩

/-! ### A pull after a push (20_memory.md R52) -/

/-- A pull depends on memory and S alone: where both are as a push left them, it delivers the byte pushed and brings
back S, whatever the rest of the state has become. -/
theorem pull_of_push {s t : State} {v : Byte} (hmem : t.mem = (s.push v).mem) (hsp : t.sp = (s.push v).sp) :
    t.pulled = v ∧ t.sp + 1 = s.sp := by
  constructor
  · calc t.pulled = (s.push v).pulled := by rw [State.pulled, State.read, hmem, hsp]; rfl
      _ = v := s.pulled_push v
  · rw [hsp, State.push_sp, sub_add_cancel]

/-- Settles O12: in both clauses the pull is `pull_of_push`, and the flags come back from their image. -/
theorem pushThenPullRestores : Obligations.PushThenPullRestores := by
  intro s t a x y pc p
  constructor
  · intro hpush
    obtain rfl : s.push s.a = t := Host.Outcome.next.inj hpush
    obtain ⟨hpulled, hsp⟩ := pull_of_push (s := s) (t := { s.push s.a with a, x, y, pc, p }) rfl rfl
    exact ⟨_, rfl, hpulled, hsp⟩
  · intro hpush
    obtain rfl : s.push (pbyte true s.p) = t := Host.Outcome.next.inj hpush
    obtain ⟨hpulled, hsp⟩ := pull_of_push (s := s) (t := { s.push (pbyte true s.p) with a, x, y, pc, p }) rfl rfl
    refine ⟨_, rfl, ?_, hsp⟩
    rw [State.setP_p, hpulled, statusOfByte_pbyte]

end Sys2Proof.Proofs
end

section
/-! Proofs, part 6: the family of 41_arithmetic_logic.md. What each operation of the family does is said once, over
numbers; an opcode's clause is that, at the operand or the address its meaning names. -/

namespace Sys2Proof.Proofs

open Sys2Proof Sys2Proof.Machine Sys2Proof.Claims

/-! ### Logic and BIT (41_arithmetic_logic.md R158, R159, R166, R170) -/

theorem andA_spec (m : Byte) (s : State) :
    (andA m s).a = s.a &&& m ∧ FlagsNZ (andA m s).a (andA m s) ∧ OnlyChanges [.a, .n, .z] s (andA m s) :=
  loadA_spec (s.a &&& m) s

theorem orA_spec (m : Byte) (s : State) :
    (orA m s).a = s.a ||| m ∧ FlagsNZ (orA m s).a (orA m s) ∧ OnlyChanges [.a, .n, .z] s (orA m s) :=
  loadA_spec (s.a ||| m) s

theorem xorA_spec (m : Byte) (s : State) :
    (xorA m s).a = s.a ^^^ m ∧ FlagsNZ (xorA m s).a (xorA m s) ∧ OnlyChanges [.a, .n, .z] s (xorA m s) :=
  loadA_spec (s.a ^^^ m) s

/-- Settles O13: AND, ORA, EOR in turn, each with the operand of its mode. -/
theorem logicOperationsOnA : Obligations.LogicOperationsOnA := fun s b1 b2 =>
  ⟨completes_of (andA_spec (s.read (eaIzx b1 s)) s), completes_of (andA_spec (s.read (eaZp b1)) s),
    completes_of (andA_spec b1 s), completes_of (andA_spec (s.read (eaAbs b1 b2)) s),
    completes_of (andA_spec (s.read (eaIzy b1 s)) s), completes_of (andA_spec (s.read (eaZpx b1 s)) s),
    completes_of (andA_spec (s.read (eaAby b1 b2 s)) s), completes_of (andA_spec (s.read (eaAbx b1 b2 s)) s),
    completes_of (orA_spec (s.read (eaIzx b1 s)) s), completes_of (orA_spec (s.read (eaZp b1)) s),
    completes_of (orA_spec b1 s), completes_of (orA_spec (s.read (eaAbs b1 b2)) s),
    completes_of (orA_spec (s.read (eaIzy b1 s)) s), completes_of (orA_spec (s.read (eaZpx b1 s)) s),
    completes_of (orA_spec (s.read (eaAby b1 b2 s)) s), completes_of (orA_spec (s.read (eaAbx b1 b2 s)) s),
    completes_of (xorA_spec (s.read (eaIzx b1 s)) s), completes_of (xorA_spec (s.read (eaZp b1)) s),
    completes_of (xorA_spec b1 s), completes_of (xorA_spec (s.read (eaAbs b1 b2)) s),
    completes_of (xorA_spec (s.read (eaIzy b1 s)) s), completes_of (xorA_spec (s.read (eaZpx b1 s)) s),
    completes_of (xorA_spec (s.read (eaAby b1 b2 s)) s), completes_of (xorA_spec (s.read (eaAbx b1 b2 s)) s)⟩

/-- A byte is the byte 0 exactly when its number is 0: a Z flag computed by comparing bytes, as a number. -/
theorem beq_zero_iff_toNat (v : Byte) : (v == 0) = true ↔ v.toNat = 0 := by
  rw [beq_iff_eq, ← BitVec.toNat_inj]; rfl

theorem bitTest_spec (m : Byte) (s : State) :
    (bitTest m s).p.n = m.getLsbD 7 ∧ (bitTest m s).p.v = m.getLsbD 6 ∧
      ((bitTest m s).p.z = true ↔ (s.a &&& m).toNat = 0) ∧ OnlyChanges [.n, .v, .z] s (bitTest m s) :=
  ⟨rfl, rfl, beq_zero_iff_toNat (s.a &&& m), bitTest_onlyChanges m s⟩

/-- Settles O14: both forms, each with the operand of its mode. -/
theorem bitTestsTheOperand : Obligations.BitTestsTheOperand := fun s b1 b2 =>
  ⟨completes_of (bitTest_spec (s.read (eaZp b1)) s), completes_of (bitTest_spec (s.read (eaAbs b1 b2)) s)⟩

/-! ### ADC (41_arithmetic_logic.md R151, R153, R157) -/

theorem adcByMode_of_decimal {p : Status} (hd : p.d = true) (a m : Byte) : adcByMode a m p = adcDecimal a m p :=
  if_pos hd

theorem adcByMode_of_binary {p : Status} (hd : ¬ p.d = true) (a m : Byte) : adcByMode a m p = adcBinary a m p :=
  if_neg hd

theorem accumulate_adcBinary_binaryAdd (a m : Byte) (p : Status) (s : State) :
    BinaryAdd a m p.c (s.accumulate (adcBinary a m p)) := by
  refine ⟨adcBinary_toNat a m p, ?carry, ?overflow, setP_setNZ_flagsNZ _ _ _⟩
  case carry => rw [State.accumulate_p, adcBinary_c, decide_eq_true_iff]
  case overflow => rw [State.accumulate_p, adcBinary_v, decide_eq_true_iff]

/-- The model's steps are the rule's, one for one; only V is spelled as a conjunction of tests. -/
theorem accumulate_adcDecimal_decimalAdd (a m : Byte) (p : Status) (s : State) :
    DecimalAdd a m p.c (s.accumulate (adcDecimal a m p)) := by
  refine ⟨_, _, _, _, rfl, rfl, rfl, rfl, rfl, ?overflow, beq_iff_eq, decide_eq_true_iff, BitVec.toNat_ofNat _ 8⟩
  case overflow => exact Bool.and_eq_true_iff.trans (and_congr beq_iff_eq bne_iff_ne)

theorem addWithCarry_adds (m : Byte) (s : State) : Adds m s (addWithCarry m s) := by
  refine ⟨?_, addWithCarry_onlyChanges m s⟩
  rw [addWithCarry]
  split
  case isTrue hd => rw [adcByMode_of_decimal hd]; exact accumulate_adcDecimal_decimalAdd s.a m s.p s
  case isFalse hd => rw [adcByMode_of_binary hd]; exact accumulate_adcBinary_binaryAdd s.a m s.p s

/-- Settles O15: the operation in the mode D selects, with the operand of each addressing mode. -/
theorem adcAddsInTheModeDSelects : Obligations.AdcAddsInTheModeDSelects := fun s b1 b2 =>
  ⟨completes_of (addWithCarry_adds (s.read (eaIzx b1 s)) s), completes_of (addWithCarry_adds (s.read (eaZp b1)) s),
    completes_of (addWithCarry_adds b1 s), completes_of (addWithCarry_adds (s.read (eaAbs b1 b2)) s),
    completes_of (addWithCarry_adds (s.read (eaIzy b1 s)) s), completes_of (addWithCarry_adds (s.read (eaZpx b1 s)) s),
    completes_of (addWithCarry_adds (s.read (eaAby b1 b2 s)) s),
    completes_of (addWithCarry_adds (s.read (eaAbx b1 b2 s)) s)⟩

/-! ### ADC on valid decimal operands (41_arithmetic_logic.md R153) -/

/-- A byte made of two decimal digits is a valid decimal number, with the value of its digits. -/
theorem validBcd_of_digits {v : Byte} {high digit : Nat} (hv : v.toNat = high * 16 + digit) (hhigh : high ≤ 9)
    (hdigit : digit ≤ 9) : ValidBcd v ∧ bcdValue v = high * 10 + digit := by
  rw [ValidBcd, bcdValue]; omega

/-- The adjusted sum of two decimal digits and a carry is its decimal digit, and its decimal carry in the next digit. -/
theorem adjustedLowSum_eq {low : Nat} (h : low ≤ 19) :
    (if 10 ≤ low then (low + 6) % 16 + 16 else low) = low / 10 * 16 + low % 10 := by
  split <;> omega

/-- The same for the high digit, over a decimal low digit. -/
theorem adjustedHighSum_eq {high digit : Nat} (hhigh : high ≤ 19) (hdigit : digit ≤ 9) :
    (if 0xA0 ≤ high * 16 + digit then high * 16 + digit + 0x60 else high * 16 + digit) =
      high / 10 * 256 + high % 10 * 16 + digit := by
  split <;> omega

/-- The adjusted sum of the high digits passes the byte exactly when it has a decimal carry. -/
theorem adjustedSum_overflows_iff {high digit : Nat} (hdigit : digit ≤ 9) :
    0x100 ≤ high / 10 * 256 + high % 10 * 16 + digit ↔ 10 ≤ high := by omega

/-- On valid decimal operands the rule's steps add modulo 100, with the decimal carry. -/
theorem decimalAdd_bcd {a m : Byte} {c : Bool} {t : State} (h : DecimalAdd a m c t) (ha : ValidBcd a)
    (hm : ValidBcd m) :
    ValidBcd t.a ∧ bcdValue t.a = (bcdValue a + bcdValue m + c.toNat) % 100 ∧
      (t.p.c = true ↔ bcdValue a + bcdValue m + c.toNat > 99) := by
  obtain ⟨low, al, w, w', hlow, hal, hw, hw', -, -, -, hcarry, hta⟩ := h
  obtain ⟨ha1, ha0⟩ := ha
  obtain ⟨hm1, hm0⟩ := hm
  have hc := toNat_le_one c
  rw [adjustedLowSum_eq (by omega)] at hal
  obtain ⟨high, hhigh⟩ : ∃ high, high = a.toNat / 16 + m.toNat / 16 + low / 10 := ⟨_, rfl⟩
  have hdigits : w = high * 16 + low % 10 := by omega
  rw [hdigits, adjustedHighSum_eq (by omega) (by omega)] at hw'
  have hsum : bcdValue a + bcdValue m + c.toNat = high * 10 + low % 10 := by rw [bcdValue, bcdValue]; omega
  obtain ⟨hvalid, hvalue⟩ := validBcd_of_digits (v := t.a) (high := high % 10) (digit := low % 10)
    (by omega) (by omega) (by omega)
  rw [hsum]
  refine ⟨hvalid, ?value, ?carry⟩
  case value => rw [hvalue]; omega
  case carry =>
    calc t.p.c = true ↔ 0x100 ≤ w' := hcarry
      _ ↔ 10 ≤ high := by rw [hw']; exact adjustedSum_overflows_iff (by omega)
      _ ↔ high * 10 + low % 10 > 99 := by omega

theorem decimalAdc_completes {i : Instr} {s : State} {m : Byte} (hexec : exec i s = .next (addWithCarry m s))
    (hd : s.p.d = true) (ha : ValidBcd s.a) (hm : ValidBcd m) :
    ∃ t, exec i s = .next t ∧ ValidBcd t.a ∧ bcdValue t.a = (bcdValue s.a + bcdValue m + s.p.c.toNat) % 100 ∧
      (t.p.c = true ↔ bcdValue s.a + bcdValue m + s.p.c.toNat > 99) := by
  obtain ⟨hadd, -⟩ := addWithCarry_adds m s
  rw [if_pos hd] at hadd
  exact ⟨_, hexec, decimalAdd_bcd hadd ha hm⟩

/-- Settles O16: a corollary of what ADC does with D = 1, for the meaning of each opcode. -/
theorem decimalAdcIsDecimalAddition : Obligations.DecimalAdcIsDecimalAddition := fun _ _ _ hd ha =>
  ⟨decimalAdc_completes rfl hd ha, decimalAdc_completes rfl hd ha, decimalAdc_completes rfl hd ha,
    decimalAdc_completes rfl hd ha, decimalAdc_completes rfl hd ha, decimalAdc_completes rfl hd ha,
    decimalAdc_completes rfl hd ha, decimalAdc_completes rfl hd ha⟩

/-! ### SBC (41_arithmetic_logic.md R154, R155, R171; 47_undoc_immediate.md R246) -/

theorem sbcByMode_of_decimal {p : Status} (hd : p.d = true) (a m : Byte) : sbcByMode a m p = sbcDecimal a m p :=
  if_pos hd

theorem sbcByMode_of_binary {p : Status} (hd : ¬ p.d = true) (a m : Byte) : sbcByMode a m p = sbcBinary a m p :=
  if_neg hd

theorem subtractFlags_of_sbcBinary {a m : Byte} {p : Status} {t : State} (ht : t.p = (sbcBinary a m p).2) :
    SubtractFlags a m p.c t := by
  rw [SubtractFlags, ht, sbcBinary_c, sbcBinary_v, sbcBinary_n, sbcBinary_z, getLsbD_seven, sbcBinary_toNat]
  simp only [decide_eq_true_iff, and_self]

theorem accumulate_sbcBinary_binarySubtract (a m : Byte) (p : Status) (s : State) :
    BinarySubtract a m p.c (s.accumulate (sbcBinary a m p)) :=
  ⟨sbcBinary_toNat a m p, subtractFlags_of_sbcBinary rfl⟩

/-- The model's steps are the rule's, one for one; the byte kept is the residue modulo 256 of a number that may be
negative. -/
theorem accumulate_sbcDecimal_decimalSubtract (a m : Byte) (p : Status) (s : State) :
    DecimalSubtract a m p.c (s.accumulate (sbcDecimal a m p)) := by
  refine ⟨⟨_, _, _, _, rfl, rfl, rfl, rfl, ?byte⟩, subtractFlags_of_sbcBinary rfl⟩
  case byte =>
    rw [State.accumulate_a, sbcDecimal, BitVec.toNat_ofInt]
    exact Int.toNat_of_nonneg (Int.emod_nonneg _ (by decide))

theorem subtractWithBorrow_subtracts (m : Byte) (s : State) : Subtracts m s (subtractWithBorrow m s) := by
  refine ⟨?_, subtractWithBorrow_onlyChanges m s⟩
  rw [subtractWithBorrow]
  split
  case isTrue hd => rw [sbcByMode_of_decimal hd]; exact accumulate_sbcDecimal_decimalSubtract s.a m s.p s
  case isFalse hd => rw [sbcByMode_of_binary hd]; exact accumulate_sbcBinary_binarySubtract s.a m s.p s

/-- Settles O17: the operation in the mode D selects, with the operand of each addressing mode; the meanings of 0xEB and
0xE9 are the same operation. -/
theorem sbcSubtractsInTheModeDSelects : Obligations.SbcSubtractsInTheModeDSelects := fun s b1 b2 =>
  ⟨rfl, completes_of (subtractWithBorrow_subtracts (s.read (eaIzx b1 s)) s),
    completes_of (subtractWithBorrow_subtracts (s.read (eaZp b1)) s),
    completes_of (subtractWithBorrow_subtracts b1 s), completes_of (subtractWithBorrow_subtracts b1 s),
    completes_of (subtractWithBorrow_subtracts (s.read (eaAbs b1 b2)) s),
    completes_of (subtractWithBorrow_subtracts (s.read (eaIzy b1 s)) s),
    completes_of (subtractWithBorrow_subtracts (s.read (eaZpx b1 s)) s),
    completes_of (subtractWithBorrow_subtracts (s.read (eaAby b1 b2 s)) s),
    completes_of (subtractWithBorrow_subtracts (s.read (eaAbx b1 b2 s)) s)⟩

/-! ### SBC on valid decimal operands (41_arithmetic_logic.md R155) -/

/-- The adjusted difference of two decimal digits and a borrow is its decimal digit, and its borrow (the quotient -1)
from the next digit. -/
theorem adjustedLowDifference_eq {low : Int} (h : -10 ≤ low) (h' : low ≤ 9) :
    (if low < 0 then (low - 6) % 16 - 16 else low) = low / 10 * 16 + low % 10 := by
  split <;> omega

/-- The same for the high digit, over a decimal low digit. -/
theorem adjustedHighDifference_eq {high digit : Int} (h : -10 ≤ high) (h' : high ≤ 9) (hdigit : 0 ≤ digit)
    (hdigit' : digit ≤ 9) :
    (if high * 16 + digit < 0 then high * 16 + digit - 0x60 else high * 16 + digit) =
      high / 10 * 256 + high % 10 * 16 + digit := by
  split <;> omega

/-- On valid decimal operands the rule's steps subtract modulo 100, and C is "no borrow" of the decimal numbers. -/
theorem decimalSubtract_bcd {a m : Byte} {c : Bool} {t : State} (h : DecimalSubtract a m c t) (ha : ValidBcd a)
    (hm : ValidBcd m) :
    ValidBcd t.a ∧ bcdValue t.a = (bcdValue a + 100 - bcdValue m - (1 - c.toNat)) % 100 ∧
      (t.p.c = true ↔ bcdValue m + (1 - c.toNat) ≤ bcdValue a) := by
  obtain ⟨⟨low, al, u, u', hlow, hal, hu, hu', hta⟩, hcarry, -⟩ := h
  obtain ⟨ha1, ha0⟩ := ha
  obtain ⟨hm1, hm0⟩ := hm
  have hc := toNat_le_one c
  rw [adjustedLowDifference_eq (by omega) (by omega)] at hal
  obtain ⟨high, hhigh⟩ : ∃ high : Int, high = a.toNat / 16 - m.toNat / 16 + low / 10 := ⟨_, rfl⟩
  have hdigits : u = high * 16 + low % 10 := by omega
  rw [hdigits, adjustedHighDifference_eq (by omega) (by omega) (by omega) (by omega)] at hu'
  have hdifference : (bcdValue a : Int) - bcdValue m - (1 - c.toNat) = high * 10 + low % 10 := by
    rw [bcdValue, bcdValue]; omega
  obtain ⟨hvalid, hvalue⟩ := validBcd_of_digits (v := t.a) (high := (high % 10).toNat) (digit := (low % 10).toNat)
    (by omega) (by omega) (by omega)
  refine ⟨hvalid, ?value, hcarry.trans ?noBorrow⟩
  case value => rw [hvalue]; omega
  case noBorrow => rw [bcdValue, bcdValue]; omega

theorem decimalSbc_completes {i : Instr} {s : State} {m : Byte}
    (hexec : exec i s = .next (subtractWithBorrow m s)) (hd : s.p.d = true) (ha : ValidBcd s.a) (hm : ValidBcd m) :
    ∃ t, exec i s = .next t ∧ ValidBcd t.a ∧
      bcdValue t.a = (bcdValue s.a + 100 - bcdValue m - (1 - s.p.c.toNat)) % 100 ∧
      (t.p.c = true ↔ bcdValue m + (1 - s.p.c.toNat) ≤ bcdValue s.a) := by
  obtain ⟨hsub, -⟩ := subtractWithBorrow_subtracts m s
  rw [if_pos hd] at hsub
  exact ⟨_, hexec, decimalSubtract_bcd hsub ha hm⟩

/-- Settles O18: a corollary of what SBC does with D = 1, for the meaning of each opcode. -/
theorem decimalSbcIsDecimalSubtraction : Obligations.DecimalSbcIsDecimalSubtraction := fun _ _ _ hd ha =>
  ⟨decimalSbc_completes rfl hd ha, decimalSbc_completes rfl hd ha, decimalSbc_completes rfl hd ha,
    decimalSbc_completes rfl hd ha, decimalSbc_completes rfl hd ha, decimalSbc_completes rfl hd ha,
    decimalSbc_completes rfl hd ha, decimalSbc_completes rfl hd ha, decimalSbc_completes rfl hd ha⟩

/-! ### Compare (41_arithmetic_logic.md R152, R160 to R162) -/

theorem compares_of_compareFlags {r m : Byte} {p : Status} {t : State} (ht : t.p = compareFlags r m p) :
    Compares r m t := by
  have hdiff : (r - m).toNat = (r.toNat + 256 - m.toNat) % 256 := by
    rw [BitVec.toNat_sub]; omega
  rw [Compares, ht, compareFlags_c, compareFlags_z, compareFlags_n, getLsbD_seven, hdiff]
  simp only [decide_eq_true_iff, and_self]

theorem compareA_spec (m : Byte) (s : State) :
    Compares s.a m (compareA m s) ∧ OnlyChanges [.n, .z, .c] s (compareA m s) :=
  ⟨compares_of_compareFlags rfl, compareA_onlyChanges m s⟩

theorem compareX_spec (m : Byte) (s : State) :
    Compares s.x m (compareX m s) ∧ OnlyChanges [.n, .z, .c] s (compareX m s) :=
  ⟨compares_of_compareFlags rfl, compareX_onlyChanges m s⟩

theorem compareY_spec (m : Byte) (s : State) :
    Compares s.y m (compareY m s) ∧ OnlyChanges [.n, .z, .c] s (compareY m s) :=
  ⟨compares_of_compareFlags rfl, compareY_onlyChanges m s⟩

/-- Settles O19: CMP, CPX, CPY in turn, each with the operand of its mode. -/
theorem comparesSetNZC : Obligations.ComparesSetNZC := fun s b1 b2 =>
  ⟨completes_of (compareA_spec (s.read (eaIzx b1 s)) s), completes_of (compareA_spec (s.read (eaZp b1)) s),
    completes_of (compareA_spec b1 s), completes_of (compareA_spec (s.read (eaAbs b1 b2)) s),
    completes_of (compareA_spec (s.read (eaIzy b1 s)) s), completes_of (compareA_spec (s.read (eaZpx b1 s)) s),
    completes_of (compareA_spec (s.read (eaAby b1 b2 s)) s), completes_of (compareA_spec (s.read (eaAbx b1 b2 s)) s),
    completes_of (compareX_spec b1 s), completes_of (compareX_spec (s.read (eaZp b1)) s),
    completes_of (compareX_spec (s.read (eaAbs b1 b2)) s),
    completes_of (compareY_spec b1 s), completes_of (compareY_spec (s.read (eaZp b1)) s),
    completes_of (compareY_spec (s.read (eaAbs b1 b2)) s)⟩

/-! ### Increment and decrement (41_arithmetic_logic.md R156, R163 to R165, R167 to R169) -/

theorem add_one_toNat (v : Byte) : (v + 1).toNat = (v.toNat + 1) % 256 := BitVec.toNat_add v 1

theorem sub_one_toNat (v : Byte) : (v - 1).toNat = (v.toNat + 255) % 256 := by
  rw [BitVec.toNat_sub, Nat.add_comm]; rfl

/-- A read-modify-write rewrites one byte, to what its core computes (30_encoding.md R98). -/
theorem modifyMem_rewritesMemory (core : Byte → Status → Byte × Status) (ea : Addr) (s : State) :
    RewritesMemory ea (core (s.read ea) s.p).1.toNat s (s.modifyMem core ea) := by
  refine ⟨?_, fun b hb => ?_⟩
  · rw [State.modifyMem_read, if_pos rfl]
  · rw [State.modifyMem_read, if_neg hb]

/-- Where a core sets N and Z of the byte it computes, they are those of the byte in memory after it. -/
theorem modifyMem_flagsNZ {core : Byte → Status → Byte × Status} {ea : Addr} {s : State} {q : Status}
    (hcore : (core (s.read ea) s.p).2 = setNZ (core (s.read ea) s.p).1 q) :
    FlagsNZ ((s.modifyMem core ea).read ea) (s.modifyMem core ea) := by
  rw [State.modifyMem_read, if_pos rfl, State.modifyMem, hcore]
  exact setP_setNZ_flagsNZ _ _ q

theorem modifyMem_incCore_spec (ea : Addr) (s : State) :
    RewritesMemory ea (((s.read ea).toNat + 1) % 256) s (s.modifyMem incCore ea) ∧
      FlagsNZ ((s.modifyMem incCore ea).read ea) (s.modifyMem incCore ea) ∧
      OnlyChanges [.mem, .n, .z] s (s.modifyMem incCore ea) := by
  rw [← add_one_toNat]
  exact ⟨modifyMem_rewritesMemory incCore ea s, modifyMem_flagsNZ rfl,
    modifyMem_onlyChanges incCore_flagsOnlyChange ea s⟩

theorem modifyMem_decCore_spec (ea : Addr) (s : State) :
    RewritesMemory ea (((s.read ea).toNat + 255) % 256) s (s.modifyMem decCore ea) ∧
      FlagsNZ ((s.modifyMem decCore ea).read ea) (s.modifyMem decCore ea) ∧
      OnlyChanges [.mem, .n, .z] s (s.modifyMem decCore ea) := by
  rw [← sub_one_toNat]
  exact ⟨modifyMem_rewritesMemory decCore ea s, modifyMem_flagsNZ rfl,
    modifyMem_onlyChanges decCore_flagsOnlyChange ea s⟩

/-- Settles O20: INC, then DEC, each at the address of its mode. -/
theorem incDecOfMemory : Obligations.IncDecOfMemory := fun s b1 b2 =>
  ⟨completes_of (modifyMem_incCore_spec (eaZp b1) s), completes_of (modifyMem_incCore_spec (eaAbs b1 b2) s),
    completes_of (modifyMem_incCore_spec (eaZpx b1 s) s), completes_of (modifyMem_incCore_spec (eaAbx b1 b2 s) s),
    completes_of (modifyMem_decCore_spec (eaZp b1) s), completes_of (modifyMem_decCore_spec (eaAbs b1 b2) s),
    completes_of (modifyMem_decCore_spec (eaZpx b1 s) s), completes_of (modifyMem_decCore_spec (eaAbx b1 b2 s) s)⟩

/-- Settles O21: each is the load of the register's old value plus or minus one. -/
theorem incDecOfIndexRegisters : Obligations.IncDecOfIndexRegisters := by
  intro s
  rw [← add_one_toNat, ← add_one_toNat, ← sub_one_toNat, ← sub_one_toNat]
  obtain ⟨-, hinx⟩ := loadX_spec (s.x + 1) s
  obtain ⟨-, hiny⟩ := loadY_spec (s.y + 1) s
  obtain ⟨-, hdex⟩ := loadX_spec (s.x - 1) s
  obtain ⟨-, hdey⟩ := loadY_spec (s.y - 1) s
  exact ⟨completes_of ⟨rfl, hinx⟩, completes_of ⟨rfl, hiny⟩, completes_of ⟨rfl, hdex⟩, completes_of ⟨rfl, hdey⟩⟩

end Sys2Proof.Proofs
end

section
/-! Proofs, part 7: the family of 42_shift_rotate.md. What makes a core a shift is said once, and what the accumulator
form and the memory form of any such core do; an opcode's clause is that, for its core and at the address of its mode. -/

namespace Sys2Proof.Proofs

open Sys2Proof Sys2Proof.Machine Sys2Proof.Claims

/-! ### Shift cores (42_shift_rotate.md R180) -/

/-- A core that turns a byte into `value` of it and the old C, moves its bit `out` to C, and sets N and Z of the byte it
makes. The four cores of the rule are such: `aslCore_isShiftCore` and the three after it. -/
def IsShiftCore (core : Byte → Status → Byte × Status) (value : Byte → Bool → Nat) (out : Byte → Bool) : Prop :=
  ∀ v p, (core v p).1.toNat = value v p.c ∧ (core v p).2 = setNZ (core v p).1 { p with c := out v }

theorem aslCore_isShiftCore : IsShiftCore aslCore (fun v _ => aslValue v) (fun v => v.getLsbD 7) :=
  fun v p => ⟨aslCore_toNat v p, aslCore_snd v p⟩

theorem lsrCore_isShiftCore : IsShiftCore lsrCore (fun v _ => lsrValue v) (fun v => v.getLsbD 0) :=
  fun v p => ⟨lsrCore_toNat v p, lsrCore_snd v p⟩

theorem rolCore_isShiftCore : IsShiftCore rolCore rolValue (fun v => v.getLsbD 7) :=
  fun v p => ⟨rolCore_toNat v p, rolCore_snd v p⟩

theorem rorCore_isShiftCore : IsShiftCore rorCore rorValue (fun v => v.getLsbD 0) :=
  fun v p => ⟨rorCore_toNat v p, rorCore_snd v p⟩

/-- After SetNZ on flags with the bit shifted out in C: N is bit 7 of the result, here as a bound on its number. -/
theorem shiftFlags_of_setNZ {r : Byte} {out : Bool} {p : Status} {t : State}
    (ht : t.p = setNZ r { p with c := out }) : ShiftFlags r.toNat out t := by
  rw [ShiftFlags, ht, setNZ_c, setNZ_n, setNZ_z, getLsbD_seven]
  simp only [decide_eq_true_iff, and_self]

section ShiftCore

variable {core : Byte → Status → Byte × Status} {value : Byte → Bool → Nat} {out : Byte → Bool}

theorem IsShiftCore.flagsOnlyChange (hcore : IsShiftCore core value out) (v : Byte) (p : Status) :
    FlagsOnlyChange [.n, .z, .c] p (core v p).2 := by
  obtain ⟨-, hflags⟩ := hcore v p
  simp [FlagsOnlyChange, hflags]

theorem IsShiftCore.modifyA_shiftsA (hcore : IsShiftCore core value out) (s : State) :
    ShiftsA (value s.a s.p.c) (out s.a) s (s.modifyA core) := by
  obtain ⟨hvalue, hflags⟩ := hcore s.a s.p
  rw [← hvalue]
  exact ⟨rfl, shiftFlags_of_setNZ hflags, modifyA_onlyChanges hcore.flagsOnlyChange s⟩

theorem IsShiftCore.modifyMem_shiftsMemory (hcore : IsShiftCore core value out) (ea : Addr) (s : State) :
    ShiftsMemory ea (value (s.read ea) s.p.c) (out (s.read ea)) s (s.modifyMem core ea) := by
  obtain ⟨hvalue, hflags⟩ := hcore (s.read ea) s.p
  rw [← hvalue]
  exact ⟨modifyMem_rewritesMemory core ea s, shiftFlags_of_setNZ hflags,
    modifyMem_onlyChanges hcore.flagsOnlyChange ea s⟩

end ShiftCore

/-! ### ASL and LSR (42_shift_rotate.md R181, R182) -/

/-- Settles O22: ASL, then LSR, in A and at the address of each mode. -/
theorem aslAndLsrShiftByOne : Obligations.AslAndLsrShiftByOne := fun s b1 b2 =>
  have aslA := aslCore_isShiftCore.modifyA_shiftsA s
  have asl ea := aslCore_isShiftCore.modifyMem_shiftsMemory ea s
  have lsrA := lsrCore_isShiftCore.modifyA_shiftsA s
  have lsr ea := lsrCore_isShiftCore.modifyMem_shiftsMemory ea s
  ⟨completes_of (asl (eaZp b1)), completes_of aslA, completes_of (asl (eaAbs b1 b2)),
    completes_of (asl (eaZpx b1 s)), completes_of (asl (eaAbx b1 b2 s)),
    completes_of (lsr (eaZp b1)), completes_of lsrA, completes_of (lsr (eaAbs b1 b2)),
    completes_of (lsr (eaZpx b1 s)), completes_of (lsr (eaAbx b1 b2 s))⟩

/-! ### ROL and ROR (42_shift_rotate.md R183, R184) -/

/-- Settles O23: ROL, then ROR, in A and at the address of each mode. -/
theorem rolAndRorRotateThroughCarry : Obligations.RolAndRorRotateThroughCarry := fun s b1 b2 =>
  have rolA := rolCore_isShiftCore.modifyA_shiftsA s
  have rol ea := rolCore_isShiftCore.modifyMem_shiftsMemory ea s
  have rorA := rorCore_isShiftCore.modifyA_shiftsA s
  have ror ea := rorCore_isShiftCore.modifyMem_shiftsMemory ea s
  ⟨completes_of (rol (eaZp b1)), completes_of rolA, completes_of (rol (eaAbs b1 b2)),
    completes_of (rol (eaZpx b1 s)), completes_of (rol (eaAbx b1 b2 s)),
    completes_of (ror (eaZp b1)), completes_of rorA, completes_of (ror (eaAbs b1 b2)),
    completes_of (ror (eaZpx b1 s)), completes_of (ror (eaAbx b1 b2 s))⟩

end Sys2Proof.Proofs
end

section
/-! Proofs, part 8: the family of 43_control_flow.md. What each operation of the family does is said once; an opcode's
clause is that, at the condition or the target its meaning names. A trap entry is described for any vector outside the
stack's page, so that the interrupt entries can use the same lemma as BRK. -/

namespace Sys2Proof.Proofs

open Sys2Proof Sys2Proof.Machine Sys2Proof.Claims

/-! ### Branches and jumps (43_control_flow.md R190 to R196, R198 to R200) -/

theorem branch_branches (cond : Bool) (b1 : Byte) (s : State) : Branches cond b1 s (branch cond b1 s) := by
  refine ⟨?_, branch_onlyChanges cond b1 s⟩
  cases cond
  case false => rfl
  case true => exact targetRel_toNat b1 s.pc

/-- Settles O24: each opcode is the branch on its own condition. -/
theorem conditionalBranches : Obligations.ConditionalBranches := fun s b1 =>
  ⟨completes_of (branch_branches (!s.p.c) b1 s), completes_of (branch_branches s.p.c b1 s),
    completes_of (branch_branches s.p.z b1 s), completes_of (branch_branches s.p.n b1 s),
    completes_of (branch_branches (!s.p.z) b1 s), completes_of (branch_branches (!s.p.n) b1 s),
    completes_of (branch_branches (!s.p.v) b1 s), completes_of (branch_branches s.p.v b1 s)⟩

/-- Settles O25: both forms write pc alone, with the target of their mode. -/
theorem jmpGoesToItsTarget : Obligations.JmpGoesToItsTarget := fun s b1 b2 =>
  ⟨completes_of ⟨eaAbs_toNat b1 b2, setPc_onlyChanges s (eaAbs b1 b2)⟩,
    completes_of ⟨targetInd_toNat b1 b2 s, setPc_onlyChanges s (targetInd b1 b2 s)⟩⟩

/-! ### Words on the stack (20_memory.md R51, R52) -/

/-! S after several pushes or pulls, modulo 256: the operations step by one, the rules count. -/

theorem sub_one_sub_one (sp : Byte) : sp - 1 - 1 = sp - 2 := sub_sub sp 1 1

theorem add_one_add_one (sp : Byte) : sp + 1 + 1 = sp + 2 := add_assoc sp 1 1

theorem add_two_add_one (sp : Byte) : sp + 2 + 1 = sp + 3 := add_assoc sp 2 1

/-- The two bytes of a pushed word lie at different addresses, the wrap in page 1 included. -/
theorem stackAddr_ne_sub_one (sp : Byte) : stackAddr sp ≠ stackAddr (sp - 1) := by
  rw [ne_eq, stackAddr_inj]
  bv_omega

theorem push16_pushed16 (s : State) (w : Addr) : Pushed16 w s (s.push16 w) := by
  refine ⟨?high, ?low, fun b hb hb' => ?other⟩
  case high => rw [State.push16_read, if_neg (stackAddr_ne_sub_one s.sp), if_pos rfl]
  case low => rw [State.push16_read, if_pos rfl]
  case other => rw [State.push16_read, if_neg hb', if_neg hb]

/-- Two pulls depend on memory and S alone: where both are as a push of a word left them, they deliver the word and
bring back S, whatever the rest of the state has become. -/
theorem pull16_of_push16 {s t : State} {w : Addr} (hmem : t.mem = (s.push16 w).mem) (hsp : t.sp = (s.push16 w).sp) :
    t.pulled16 = w ∧ t.sp + 1 + 1 = s.sp := by
  obtain ⟨hhigh, hlow, -⟩ := push16_pushed16 s w
  have hread (b : Addr) : t.read b = (s.push16 w).read b := congrArg (Memory.read · b) hmem
  have hlast : t.sp + 1 = s.sp - 1 := by rw [hsp, State.push16_sp, sub_add_cancel]
  have hback : t.sp + 1 + 1 = s.sp := by rw [hlast, sub_add_cancel]
  refine ⟨?_, hback⟩
  rw [State.pulled16_eq, hback, hlast, hread, hread, hhigh, hlow, cat_hi_lo]

/-! ### JSR and RTS (43_control_flow.md R201, R203) -/

theorem callSubroutine_spec (target : Addr) (s : State) :
    Pushed16 (s.pc - 1) s (callSubroutine target s) ∧ (callSubroutine target s).sp = s.sp - 2 ∧
      (callSubroutine target s).pc = target ∧ OnlyChanges [.sp, .pc, .mem] s (callSubroutine target s) :=
  ⟨push16_pushed16 s (s.pc - 1), sub_one_sub_one s.sp, rfl,
    onlyChanges_mono (callSubroutine_onlyChanges target s) (by decide)⟩

/-- Settles O26: the target is the operand of `adr` as a number. -/
theorem jsrStacksReturnAddressMinusOne : Obligations.JsrStacksReturnAddressMinusOne := by
  intro s b1 b2
  obtain ⟨hstack, hsp, hpc, hframe⟩ := callSubroutine_spec (eaAbs b1 b2) s
  exact completes_of (t := callSubroutine (eaAbs b1 b2) s) ⟨hstack, hsp, hpc ▸ eaAbs_toNat b1 b2, hframe⟩

theorem returnFromSubroutine_pc_toNat (s : State) :
    (returnFromSubroutine s).pc.toNat =
      ((s.read (stackAddr (s.sp + 2))).toNat * 256 + (s.read (stackAddr (s.sp + 1))).toNat + 1) % 65536 := by
  have hone : (1 : Addr).toNat = 1 := rfl
  rw [returnFromSubroutine_eq, BitVec.toNat_add, State.pulled16_eq, add_one_add_one, cat_toNat, hone]

/-- Settles O27: the return writes pc and S, which becomes two higher. -/
theorem rtsReturnsToPulledAddressPlusOne : Obligations.RtsReturnsToPulledAddressPlusOne := fun s =>
  completes_of (t := returnFromSubroutine s)
    ⟨returnFromSubroutine_pc_toNat s, add_one_add_one s.sp, returnFromSubroutine_onlyChanges s⟩

/-- Settles O28: the two pulls of RTS are `pull16_of_push16`, and RTS adds back the 1 that JSR took off. -/
theorem jsrThenRtsReturns : Obligations.JsrThenRtsReturns := by
  intro s t b1 b2 a x y pc p hjsr
  obtain rfl : callSubroutine (eaAbs b1 b2) s = t := Host.Outcome.next.inj hjsr
  obtain ⟨hpulled, hsp⟩ := pull16_of_push16 (s := s) (w := s.pc - 1)
    (t := { callSubroutine (eaAbs b1 b2) s with a, x, y, pc, p }) rfl rfl
  refine ⟨_, rfl, ?_, hsp⟩
  rw [returnFromSubroutine_eq, hpulled, sub_add_cancel]

/-! ### Trap entries and BRK (43_control_flow.md R197, 60_exceptions.md R271) -/

/-- The three bytes that a trap entry stacks lie at three different addresses, the wrap in page 1 included. -/
theorem trapEntry_stacks (s : State) (ret : Addr) (status : Byte) (vec : Addr) :
    (s.trapEntry ret status vec).read (stackAddr s.sp) = hi ret ∧
      (s.trapEntry ret status vec).read (stackAddr (s.sp - 1)) = lo ret ∧
      (s.trapEntry ret status vec).read (stackAddr (s.sp - 2)) = status ∧
      ∀ b : Addr, b ≠ stackAddr s.sp → b ≠ stackAddr (s.sp - 1) → b ≠ stackAddr (s.sp - 2) →
        (s.trapEntry ret status vec).read b = s.read b := by
  have hhighLow : stackAddr s.sp ≠ stackAddr (s.sp - 1) := stackAddr_ne_sub_one s.sp
  have hlowStatus : stackAddr (s.sp - 1) ≠ stackAddr (s.sp - 2) :=
    sub_one_sub_one s.sp ▸ stackAddr_ne_sub_one (s.sp - 1)
  have hhighStatus : stackAddr s.sp ≠ stackAddr (s.sp - 2) := by
    rw [ne_eq, stackAddr_inj]
    bv_omega
  simp only [State.trapEntry_read, sub_one_sub_one]
  refine ⟨?high, ?low, if_true .., fun b hb hb' hb'' => ?other⟩
  case high => rw [if_neg hhighStatus, if_neg hhighLow, if_true]
  case low => rw [if_neg hlowStatus, if_true]
  case other => rw [if_neg hb'', if_neg hb', if_neg hb]

theorem trapEntry_sp_eq (s : State) (ret : Addr) (status : Byte) (vec : Addr) :
    (s.trapEntry ret status vec).sp = s.sp - 3 := by
  rw [State.trapEntry_sp, sub_one_sub_one s.sp]
  exact sub_sub s.sp 2 1

/-- What a trap entry does, for a vector whose two bytes lie outside the stack's page, so that no push reaches them. -/
theorem trapEntry_entersTrap (s : State) (ret : Addr) (status : Byte) {vec : Addr} (hvec : hi vec ≠ 1)
    (hvec' : hi (vec + 1) ≠ 1) : EntersTrap ret status vec [] s (s.trapEntry ret status vec) := by
  obtain ⟨hhigh, hlow, hstatus, hother⟩ := trapEntry_stacks s ret status vec
  have hflag : (s.trapEntry ret status vec).p.i = true := by rw [State.trapEntry_p]
  exact ⟨hhigh, hlow, hstatus, hother, trapEntry_sp_eq s ret status vec, hflag,
    s.trapEntry_pc ret status vec hvec hvec', onlyChanges_mono (trapEntry_onlyChanges s ret status vec) (by decide)⟩

/-- Setting bit 2 of the image of the flags sets I in it. -/
theorem pbyte_or_four (b : Bool) (p : Status) : pbyte b p ||| 0x04 = pbyte b { p with i := true } := by
  have hbits : (0x04 : Byte) = (0#5 : BitVec (1 + 1 + 1 + 1 + 1)) ++ BitVec.ofBool true ++ 0#1 ++ 0#1 := rfl
  rw [hbits, pbyte, pbyte, BitVec.or_append, BitVec.or_append, BitVec.or_append, BitVec.ofBool_or_ofBool,
    Bool.or_true, BitVec.or_zero, BitVec.or_zero, BitVec.or_zero]

/-- The I flag in the byte that BRK pushes, as `BRK_PUSH_I` says (43_control_flow.md R197). -/
def brkPushedI (s : State) : Bool :=
  match s.params.brkPushI with
  | .set => true
  | .old => s.p.i

/-- BRK's status byte is the image, with B set, of the flags with that I. -/
theorem brkStatus_eq (s : State) : s.brkStatus = pbyte true { s.p with i := brkPushedI s } := by
  cases hpush : s.params.brkPushI
  case set => rw [s.brkStatus_set hpush, pbyte_or_four, brkPushedI, hpush]
  case old => rw [s.brkStatus_old hpush, brkPushedI, hpush]

/-- Settles O29: BRK is the trap entry with NextPC, its own status byte and the vector at 0xFFFE. -/
theorem brkEntersTheSharedVector : Obligations.BrkEntersTheSharedVector := by
  intro s b1
  have hstatus : s.brkStatus.toNat = statusValue true { s.p with i := brkPushedI s } := by
    rw [brkStatus_eq, pbyte_toNat]
  exact completes_of ⟨s.brkStatus, hstatus, trapEntry_entersTrap s s.pc s.brkStatus (by decide) (by decide)⟩

/-! ### RTI (43_control_flow.md R202) -/

theorem returnFromTrap_spec (s : State) :
    FlagsFrom (s.read (stackAddr (s.sp + 1))) s.returnFromTrap ∧
      s.returnFromTrap.pc = cat (s.read (stackAddr (s.sp + 3))) (s.read (stackAddr (s.sp + 2))) ∧
      s.returnFromTrap.sp = s.sp + 3 ∧ OnlyChanges [.sp, .pc, .n, .v, .d, .i, .z, .c] s s.returnFromTrap := by
  refine ⟨setP_statusOfByte_flagsFrom s.pulled s.afterPull, ?pc, ?sp,
    onlyChanges_mono (returnFromTrap_onlyChanges s) (by decide)⟩
  case pc => rw [State.returnFromTrap_pc, add_one_add_one s.sp, add_two_add_one]
  case sp => rw [State.returnFromTrap_sp, add_one_add_one s.sp, add_two_add_one]

/-- Settles O30: the first pull gives the flags as PLP's does, the other two the address. -/
theorem rtiRestoresFlagsAndAddress : Obligations.RtiRestoresFlagsAndAddress := by
  intro s
  obtain ⟨hflags, hpc, hsp, hframe⟩ := returnFromTrap_spec s
  exact completes_of (t := s.returnFromTrap) ⟨hflags, hpc ▸ cat_toNat _ _, hsp, hframe⟩

end Sys2Proof.Proofs
end

section
/-! Proofs, part 9: the family of 44_flag_nop_hlt.md. What a write of one flag and what HLT do is said once; a NOP answers
the state it was given, after a discarded read where its mode has an address. -/

namespace Sys2Proof.Proofs

open Sys2Proof Sys2Proof.Machine Sys2Proof.Claims

/-! ### Flag instructions (44_flag_nop_hlt.md R210 to R216) -/

theorem writeC_spec (b : Bool) (s : State) :
    (s.setP { s.p with c := b }).p.c = b ∧ OnlyChanges [.c] s (s.setP { s.p with c := b }) :=
  ⟨rfl, setP_onlyChanges (setC_flagsOnlyChange b s.p)⟩

theorem writeD_spec (b : Bool) (s : State) :
    (s.setP { s.p with d := b }).p.d = b ∧ OnlyChanges [.d] s (s.setP { s.p with d := b }) :=
  ⟨rfl, setP_onlyChanges (setD_flagsOnlyChange b s.p)⟩

theorem writeI_spec (b : Bool) (s : State) :
    (s.setP { s.p with i := b }).p.i = b ∧ OnlyChanges [.i] s (s.setP { s.p with i := b }) :=
  ⟨rfl, setP_onlyChanges (setI_flagsOnlyChange b s.p)⟩

theorem writeV_spec (b : Bool) (s : State) :
    (s.setP { s.p with v := b }).p.v = b ∧ OnlyChanges [.v] s (s.setP { s.p with v := b }) :=
  ⟨rfl, setP_onlyChanges (setV_flagsOnlyChange b s.p)⟩

/-- Settles O32: CLC, CLD, CLI, CLV write 0 to their flag, SEC, SED, SEI write 1. -/
theorem flagInstructionsWriteOneFlag : Obligations.FlagInstructionsWriteOneFlag := fun s =>
  ⟨completes_of (writeC_spec false s), completes_of (writeD_spec false s), completes_of (writeI_spec false s),
    completes_of (writeV_spec false s),
    completes_of (writeC_spec true s), completes_of (writeD_spec true s), completes_of (writeI_spec true s)⟩

/-! ### NOP (44_flag_nop_hlt.md R217) -/

/-- How each NOP's clause is made: from its bytes, the state its meaning answers, and why that is the state it was
given. -/
theorem keepsState_of {i : Instr} {bytes : List Byte} {s t : State} (hsame : t = s)
    (hbytes : encode i = bytes := by rfl) (hexec : exec i s = .next t := by rfl) :
    encode i = bytes ∧ exec i s = .next s :=
  ⟨hbytes, hsame ▸ hexec⟩

/-- Settles O33: a NOP whose mode has an address discards what it reads there (`State.readDiscarded_eq`), an implied or
immediate one answers the state itself. -/
theorem nopChangesNothing : Obligations.NopChangesNothing := fun s b1 b2 =>
  have zp := s.readDiscarded_eq (eaZp b1)
  have zpx := s.readDiscarded_eq (eaZpx b1 s)
  have abs := s.readDiscarded_eq (eaAbs b1 b2)
  have abx := s.readDiscarded_eq (eaAbx b1 b2 s)
  have noAddress : s = s := rfl
  ⟨keepsState_of zp, keepsState_of abs, keepsState_of zpx, keepsState_of noAddress, keepsState_of abx,
    keepsState_of zpx, keepsState_of noAddress, keepsState_of abx, keepsState_of zp,
    keepsState_of zpx, keepsState_of noAddress, keepsState_of abx, keepsState_of zp,
    keepsState_of zpx, keepsState_of noAddress, keepsState_of abx, keepsState_of noAddress,
    keepsState_of noAddress, keepsState_of zpx, keepsState_of noAddress, keepsState_of abx,
    keepsState_of noAddress, keepsState_of zpx, keepsState_of noAddress, keepsState_of abx,
    keepsState_of noAddress, keepsState_of noAddress, keepsState_of noAddress, keepsState_of noAddress⟩

/-! ### HLT (44_flag_nop_hlt.md R218) -/

theorem halt_spec (s : State) :
    (halt s).halted = true ∧ (halt s).pc = s.pc - 1 ∧ OnlyChanges [.halted, .pc] s (halt s) :=
  ⟨rfl, rfl, halt_onlyChanges s⟩

/-- Settles O34: all fifteen opcodes are `halt`, and `step_halted` is the step after it. -/
theorem hltStopsTheProcessor : Obligations.HltStopsTheProcessor := by
  refine ⟨fun s => ?opcodes, fun s hhalted hreset => step_halted s hreset hhalted⟩
  have hhalt := halt_spec s
  exact ⟨completes_of hhalt, completes_of hhalt, completes_of hhalt, completes_of hhalt, completes_of hhalt,
    completes_of hhalt, completes_of hhalt, completes_of hhalt, completes_of hhalt, completes_of hhalt,
    completes_of hhalt, completes_of hhalt, completes_of hhalt, completes_of hhalt, completes_of hhalt⟩

end Sys2Proof.Proofs
end

section
/-! Proofs, part 10: the family of 45_undoc_rmw.md. A combination is one read-modify-write followed by a second operation
on the byte it wrote; that the second operation leaves memory alone is used once, to name that byte by its address. What
each combination does is then what its two operations do, and an opcode's clause is that, at the address of its mode. -/

namespace Sys2Proof.Proofs

open Sys2Proof Sys2Proof.Machine Sys2Proof.Claims

/-! ### The frame of the combinations (45_undoc_rmw.md R220) -/

/-- The state between the two operations is that after the read-modify-write; what holds of every run of the second
operation holds of its run there, on the byte that the completed instruction leaves at `ea`. -/
theorem modifyMemThen_spec {core : Byte → Status → Byte × Status} {second : Byte → State → State}
    {post : Byte → State → State → Prop} (hsecond : ∀ m t, post m t (second m t))
    (hmem : ∀ m t, (second m t).mem = t.mem) (ea : Addr) (s : State) :
    RewritesMemory ea (core (s.read ea) s.p).1.toNat s (s.modifyMemThen core second ea) ∧
      post ((s.modifyMemThen core second ea).read ea) (s.modifyMem core ea) (s.modifyMemThen core second ea) := by
  have hread (b : Addr) : (s.modifyMemThen core second ea).read b = (s.modifyMem core ea).read b :=
    congrArg (Memory.read · b) (hmem _ _)
  have hbyte : (s.modifyMem core ea).read ea = (core (s.read ea) s.p).1 := by
    rw [State.modifyMem_read, if_pos rfl]
  constructor
  · simp only [RewritesMemory, hread]
    exact modifyMem_rewritesMemory core ea s
  · rw [hread, hbyte]
    exact hsecond _ _

/-! ### ASO, RLA and LSE (45_undoc_rmw.md R221, R224, R225) -/

/-- What a logic operation with the operand `m` does. -/
def CombinesIntoA (combine : Byte → Byte → Byte) (m : Byte) (s t : State) : Prop :=
  t.a = combine s.a m ∧ FlagsNZ t.a t ∧ OnlyChanges [.a, .n, .z] s t

/-- What a shift of the byte at `ea` to the value `r`, `out` going to C, does together with the logic operation after
it. -/
def ShiftsMemoryAndCombines (combine : Byte → Byte → Byte) (ea : Addr) (r : Nat) (out : Bool) (s t : State) : Prop :=
  RewritesMemory ea r s t ∧ t.p.c = out ∧ t.a = combine s.a (t.read ea) ∧ FlagsNZ t.a t ∧
    OnlyChanges [.a, .mem, .n, .z, .c] s t

/-- The logic operation keeps C, so C is the bit the shift moved out; N and Z are overwritten with those of A. -/
theorem IsShiftCore.modifyMemThen_combines {core : Byte → Status → Byte × Status} {value : Byte → Bool → Nat}
    {out : Byte → Bool} (hcore : IsShiftCore core value out) {second : Byte → State → State}
    {combine : Byte → Byte → Byte} (hsecond : ∀ m t, CombinesIntoA combine m t (second m t))
    (hmem : ∀ m t, (second m t).mem = t.mem) (ea : Addr) (s : State) :
    ShiftsMemoryAndCombines combine ea (value (s.read ea) s.p.c) (out (s.read ea)) s
      (s.modifyMemThen core second ea) := by
  obtain ⟨hrewrites, ha, hflags, hkept⟩ := modifyMemThen_spec (core := core) hsecond hmem ea s
  obtain ⟨-, ⟨hout, -, -⟩, hshift⟩ := hcore.modifyMem_shiftsMemory ea s
  have hcarry : (s.modifyMemThen core second ea).p.c = (s.modifyMem core ea).p.c := hkept .c (by decide)
  obtain ⟨hvalue, -⟩ := hcore (s.read ea) s.p
  exact ⟨hvalue ▸ hrewrites, hcarry.trans hout, ha, hflags,
    onlyChanges_mono (onlyChanges_trans hshift hkept) (by decide)⟩

/-- Settles O35: ASO, RLA, LSE in turn, each a shift of the byte at the address of its mode and the logic operation. -/
theorem asoRlaLseShiftMemoryAndCombineWithA : Obligations.AsoRlaLseShiftMemoryAndCombineWithA := fun s b1 b2 =>
  have aso ea := aslCore_isShiftCore.modifyMemThen_combines (combine := (· ||| ·)) orA_spec (fun _ _ => rfl) ea s
  have rla ea := rolCore_isShiftCore.modifyMemThen_combines (combine := (· &&& ·)) andA_spec (fun _ _ => rfl) ea s
  have lse ea := lsrCore_isShiftCore.modifyMemThen_combines (combine := (· ^^^ ·)) xorA_spec (fun _ _ => rfl) ea s
  ⟨completes_of (aso (eaIzx b1 s)), completes_of (aso (eaZp b1)), completes_of (aso (eaAbs b1 b2)),
    completes_of (aso (eaIzy b1 s)), completes_of (aso (eaZpx b1 s)), completes_of (aso (eaAby b1 b2 s)),
    completes_of (aso (eaAbx b1 b2 s)),
    completes_of (rla (eaIzx b1 s)), completes_of (rla (eaZp b1)), completes_of (rla (eaAbs b1 b2)),
    completes_of (rla (eaIzy b1 s)), completes_of (rla (eaZpx b1 s)), completes_of (rla (eaAby b1 b2 s)),
    completes_of (rla (eaAbx b1 b2 s)),
    completes_of (lse (eaIzx b1 s)), completes_of (lse (eaZp b1)), completes_of (lse (eaAbs b1 b2)),
    completes_of (lse (eaIzy b1 s)), completes_of (lse (eaZpx b1 s)), completes_of (lse (eaAby b1 b2 s)),
    completes_of (lse (eaAbx b1 b2 s))⟩

/-! ### RRA (45_undoc_rmw.md R226) -/

/-- What RRA does at the address `ea`. -/
def RotatesMemoryAndAdds (ea : Addr) (s t : State) : Prop :=
  RewritesMemory ea (rorValue (s.read ea) s.p.c) s t ∧
    (if s.p.d then DecimalAdd s.a (t.read ea) ((s.read ea).getLsbD 0) t
      else BinaryAdd s.a (t.read ea) ((s.read ea).getLsbD 0) t) ∧
    OnlyChanges [.a, .mem, .n, .v, .z, .c] s t

/-- The addition takes as its carry the bit the rotate moved to C, and the D of the state before. -/
theorem modifyMemThen_rotatesMemoryAndAdds (ea : Addr) (s : State) :
    RotatesMemoryAndAdds ea s (s.modifyMemThen rorCore addWithCarry ea) := by
  obtain ⟨hrewrites, hadds, hkept⟩ := modifyMemThen_spec (core := rorCore) addWithCarry_adds (fun _ _ => rfl) ea s
  obtain ⟨-, ⟨hout, -, -⟩, hrotate⟩ := rorCore_isShiftCore.modifyMem_shiftsMemory ea s
  have hmode : (s.modifyMem rorCore ea).p.d = s.p.d := hrotate .d (by decide)
  rw [hmode, hout, State.modifyMem_a] at hadds
  obtain ⟨hvalue, -⟩ := rorCore_isShiftCore (s.read ea) s.p
  exact ⟨hvalue ▸ hrewrites, hadds, onlyChanges_mono (onlyChanges_trans hrotate hkept) (by decide)⟩

/-- Settles O36: the combination at the address of each mode. -/
theorem rraRotatesMemoryAndAddsToA : Obligations.RraRotatesMemoryAndAddsToA := fun s b1 b2 =>
  have rra ea := modifyMemThen_rotatesMemoryAndAdds ea s
  ⟨completes_of (rra (eaIzx b1 s)), completes_of (rra (eaZp b1)), completes_of (rra (eaAbs b1 b2)),
    completes_of (rra (eaIzy b1 s)), completes_of (rra (eaZpx b1 s)), completes_of (rra (eaAby b1 b2 s)),
    completes_of (rra (eaAbx b1 b2 s))⟩

/-! ### DCM (45_undoc_rmw.md R222) -/

/-- What DCM does at the address `ea`. -/
def DecrementsMemoryAndCompares (ea : Addr) (s t : State) : Prop :=
  RewritesMemory ea (((s.read ea).toNat + 255) % 256) s t ∧ Compares s.a (t.read ea) t ∧
    OnlyChanges [.mem, .n, .z, .c] s t

/-- The decrement leaves A to the compare, and the compare overwrites the N and Z of the decrement. -/
theorem modifyMemThen_decrementsMemoryAndCompares (ea : Addr) (s : State) :
    DecrementsMemoryAndCompares ea s (s.modifyMemThen decCore compareA ea) := by
  obtain ⟨hrewrites, hcompares, hkept⟩ :=
    modifyMemThen_spec (core := decCore) (post := fun m t u => Compares t.a m u ∧ OnlyChanges [.n, .z, .c] t u)
      compareA_spec (fun _ _ => rfl) ea s
  obtain ⟨-, -, hdecrement⟩ := modifyMem_decCore_spec ea s
  rw [State.modifyMem_a] at hcompares
  exact ⟨sub_one_toNat (s.read ea) ▸ hrewrites, hcompares,
    onlyChanges_mono (onlyChanges_trans hdecrement hkept) (by decide)⟩

/-- Settles O37: the combination at the address of each mode. -/
theorem dcmDecrementsMemoryAndCompares : Obligations.DcmDecrementsMemoryAndCompares := fun s b1 b2 =>
  have dcm ea := modifyMemThen_decrementsMemoryAndCompares ea s
  ⟨completes_of (dcm (eaIzx b1 s)), completes_of (dcm (eaZp b1)), completes_of (dcm (eaAbs b1 b2)),
    completes_of (dcm (eaIzy b1 s)), completes_of (dcm (eaZpx b1 s)), completes_of (dcm (eaAby b1 b2 s)),
    completes_of (dcm (eaAbx b1 b2 s))⟩

/-! ### INS (45_undoc_rmw.md R223) -/

/-- What INS does at the address `ea`. -/
def IncrementsMemoryAndSubtracts (ea : Addr) (s t : State) : Prop :=
  RewritesMemory ea (((s.read ea).toNat + 1) % 256) s t ∧
    (if s.p.d then DecimalSubtract s.a (t.read ea) s.p.c t else BinarySubtract s.a (t.read ea) s.p.c t) ∧
    OnlyChanges [.a, .mem, .n, .v, .z, .c] s t

/-- The increment changes neither C nor D, so the subtraction takes both from the state before. -/
theorem modifyMemThen_incrementsMemoryAndSubtracts (ea : Addr) (s : State) :
    IncrementsMemoryAndSubtracts ea s (s.modifyMemThen incCore subtractWithBorrow ea) := by
  obtain ⟨hrewrites, hsubtracts, hkept⟩ :=
    modifyMemThen_spec (core := incCore) subtractWithBorrow_subtracts (fun _ _ => rfl) ea s
  obtain ⟨-, -, hincrement⟩ := modifyMem_incCore_spec ea s
  have hmode : (s.modifyMem incCore ea).p.d = s.p.d := hincrement .d (by decide)
  have hcarry : (s.modifyMem incCore ea).p.c = s.p.c := hincrement .c (by decide)
  rw [hmode, hcarry, State.modifyMem_a] at hsubtracts
  exact ⟨add_one_toNat (s.read ea) ▸ hrewrites, hsubtracts,
    onlyChanges_mono (onlyChanges_trans hincrement hkept) (by decide)⟩

/-- Settles O38: the combination at the address of each mode. -/
theorem insIncrementsMemoryAndSubtracts : Obligations.InsIncrementsMemoryAndSubtracts := fun s b1 b2 =>
  have ins ea := modifyMemThen_incrementsMemoryAndSubtracts ea s
  ⟨completes_of (ins (eaIzx b1 s)), completes_of (ins (eaZp b1)), completes_of (ins (eaAbs b1 b2)),
    completes_of (ins (eaIzy b1 s)), completes_of (ins (eaZpx b1 s)), completes_of (ins (eaAby b1 b2 s)),
    completes_of (ins (eaAbx b1 b2 s))⟩

end Sys2Proof.Proofs
end

section
/-! Proofs, part 11: the family of 46_undoc_load_store.md. What each operation of the family does is said once; an
opcode's clause is that, at the address of its mode. SHS is the SH store from a state in which S is already written, and
what that store does is carried over to the state before. -/

namespace Sys2Proof.Proofs

open Sys2Proof Sys2Proof.Machine Sys2Proof.Claims

/-! ### LAX and LAS (46_undoc_load_store.md R230, R231) -/

theorem loadAX_spec (m : Byte) (s : State) :
    (loadAX m s).a = m ∧ (loadAX m s).x = m ∧ FlagsNZ m (loadAX m s) ∧
      OnlyChanges [.a, .x, .n, .z] s (loadAX m s) :=
  ⟨rfl, rfl, setP_setNZ_flagsNZ m _ s.p, onlyChanges_mono (loadAX_onlyChanges m s) (by decide)⟩

/-- LAS loads A and X as LAX does, with the value it has put in S. -/
theorem loadASX_spec (m : Byte) (s : State) :
    (loadASX m s).a = m &&& s.sp ∧ (loadASX m s).x = (loadASX m s).a ∧ (loadASX m s).sp = (loadASX m s).a ∧
      FlagsNZ (loadASX m s).a (loadASX m s) ∧ OnlyChanges [.a, .x, .sp, .n, .z] s (loadASX m s) := by
  obtain ⟨ha, hx, hflags, -⟩ := loadAX_spec (m &&& s.sp) (s.setSp (m &&& s.sp))
  exact ⟨ha, hx.trans ha.symm, rfl, hflags, onlyChanges_mono (loadASX_onlyChanges m s) (by decide)⟩

/-- Settles O39: LAX with the operand of each mode, then LAS. -/
theorem laxAndLasLoadSeveralRegisters : Obligations.LaxAndLasLoadSeveralRegisters := fun s b1 b2 =>
  have lax ea := loadAX_spec (s.read ea) s
  ⟨completes_of (lax (eaIzx b1 s)), completes_of (lax (eaZp b1)), completes_of (lax (eaAbs b1 b2)),
    completes_of (lax (eaIzy b1 s)), completes_of (lax (eaZpy b1 s)), completes_of (lax (eaAby b1 b2 s)),
    completes_of (loadASX_spec (s.read (eaAby b1 b2 s)) s)⟩

/-! ### SAX (46_undoc_load_store.md R232) -/

theorem storeAX_spec (ea : Addr) (s : State) :
    StoresOnly ea (s.a &&& s.x) s (storeAX ea s) ∧ OnlyChanges [.mem] s (storeAX ea s) :=
  ⟨write_storesOnly s ea (s.a &&& s.x), write_onlyChanges s ea (s.a &&& s.x)⟩

/-- Settles O40: the store at the address of each mode. -/
theorem saxStoresAAndX : Obligations.SaxStoresAAndX := fun s b1 b2 =>
  have sax ea := storeAX_spec ea s
  ⟨completes_of (sax (eaIzx b1 s)), completes_of (sax (eaZp b1)), completes_of (sax (eaAbs b1 b2)),
    completes_of (sax (eaZpy b1 s))⟩

/-! ### SHA, SHX and SHY (46_undoc_load_store.md R233, R234, R236, R237) -/

theorem shTarget_eq (base ea : Addr) (v : Byte) :
    shTarget base ea v = if hi ea = hi base then ea else cat v (lo ea) := by
  simp only [shTarget, pageCrossed, bne_iff_ne, ne_eq, ite_not]

theorem shStore_storesOnly (reg : Byte) (base ea : Addr) (s : State) :
    StoresOnly (shTarget base ea (shValue s.shDropped reg base)) (shValue s.shDropped reg base) s
      (shStore reg base ea s) := by
  simp only [StoresOnly, shStore, State.afterShDraw_read]
  exact write_storesOnly s _ _

/-- The free choice in the rule of the SH store is the model's draw, which `State.sh_stable` rules out, together with
the count of it, where `SH_UNSTABLE` is false. -/
theorem shStore_shStores (reg : Byte) (base ea : Addr) (s : State) :
    ShStores reg base ea [] s (shStore reg base ea s) := by
  refine ⟨s.shDropped, fun hstable => ?draw, ?store, shStore_onlyChanges reg base ea s⟩
  case draw =>
    obtain ⟨hdropped, -⟩ := s.sh_stable hstable
    rw [shStore_eq, hstable]
    exact ⟨hdropped, rfl⟩
  case store =>
    have hstore := shStore_storesOnly reg base ea s
    rwa [shTarget_eq] at hstore

/-- Settles O41: each opcode is the SH store of its register term, at the base and the address of its mode. -/
theorem shaShxShyStoreWithTheHighByte : Obligations.ShaShxShyStoreWithTheHighByte := fun s b1 b2 =>
  have sh reg base ea := shStore_shStores reg base ea s
  ⟨completes_of (sh (s.a &&& s.x) (baseIzy b1 s) (eaIzy b1 s)),
    completes_of (sh (s.a &&& s.x) (eaAbs b1 b2) (eaAby b1 b2 s)),
    completes_of (sh s.x (eaAbs b1 b2) (eaAby b1 b2 s)), completes_of (sh s.y (eaAbs b1 b2) (eaAbx b1 b2 s))⟩

/-! ### SHS (46_undoc_load_store.md R235) -/

/-- The rule of the SH store speaks of memory, the parameters and the draws of the state before, none of which a write
of S changes. -/
theorem shStores_of_setSp {reg v : Byte} {base ea : Addr} {s t : State}
    (h : ShStores reg base ea [] (s.setSp v) t) : ShStores reg base ea [.sp] s t := by
  obtain ⟨dropped, hdraw, hstore, hframe⟩ := h
  exact ⟨dropped, hdraw, hstore, onlyChanges_mono (onlyChanges_trans (setSp_onlyChanges s v) hframe) (by decide)⟩

/-- What an SH store leaves in memory, a dropped term included, does not depend on S. -/
theorem shStore_setSp_read (reg v : Byte) (base ea : Addr) (s : State) (b : Addr) :
    (shStore reg base ea (s.setSp v)).read b = (shStore reg base ea s).read b := by
  rw [shStore_eq, shStore_eq]
  rfl

theorem shStore_sp (reg : Byte) (base ea : Addr) (s : State) : (shStore reg base ea s).sp = s.sp :=
  shStore_onlyChanges reg base ea s .sp (by decide)

/-- Settles O42: S is written before the store, which leaves it; the store is that of `shStore_shStores`, and SHA's from
the same state by `shStore_setSp_read`. -/
theorem shsSetsSAndStores : Obligations.ShsSetsSAndStores := fun s b1 b2 =>
  completes_of (t := shStore (s.a &&& s.x) (eaAbs b1 b2) (eaAby b1 b2 s) (s.setSp (s.a &&& s.x)))
    ⟨shStore_sp _ _ _ _, shStores_of_setSp (shStore_shStores _ _ _ _),
      fun _ => ⟨_, rfl, shStore_setSp_read _ _ _ _ s⟩⟩

end Sys2Proof.Proofs
end

section
/-! Proofs, part 12: the family of 47_undoc_immediate.md. What each operation of the family does is said once, for the
immediate operand; an opcode's clause is that. The unstable two are described under any mask or constant first, and the
state only supplies which. -/

namespace Sys2Proof.Proofs

open Sys2Proof Sys2Proof.Machine Sys2Proof.Claims

/-! ### ALR and ANC (47_undoc_immediate.md R240, R241) -/

/-- A byte shifted right by one is below 128. -/
theorem lsrCore_n (v : Byte) (p : Status) : (lsrCore v p).2.n = false := by
  rw [lsrCore_snd, setNZ_n, getLsbD_seven, lsrCore_toNat]
  have := v.isLt
  exact decide_eq_false (by omega)

theorem andThenLsr_spec (imm : Byte) (s : State) :
    (andThenLsr imm s).a.toNat = lsrValue (s.a &&& imm) ∧ (andThenLsr imm s).p.c = (s.a &&& imm).getLsbD 0 ∧
      (andThenLsr imm s).p.n = false ∧ ((andThenLsr imm s).p.z = true ↔ (andThenLsr imm s).a.toNat = 0) ∧
      OnlyChanges [.a, .n, .z, .c] s (andThenLsr imm s) :=
  ⟨lsrCore_toNat _ s.p, rfl, lsrCore_n _ s.p, beq_zero_iff_toNat _, andThenLsr_onlyChanges imm s⟩

/-- C and N are both bit 7 of the result. -/
theorem andThenCarry_spec (imm : Byte) (s : State) :
    (andThenCarry imm s).a = s.a &&& imm ∧ FlagsNZ (andThenCarry imm s).a (andThenCarry imm s) ∧
      (andThenCarry imm s).p.c = (andThenCarry imm s).p.n ∧ OnlyChanges [.a, .n, .z, .c] s (andThenCarry imm s) :=
  ⟨rfl, ⟨rfl, beq_zero_iff_toNat _⟩, rfl, andThenCarry_onlyChanges imm s⟩

/-- Settles O43: ALR, then both opcodes of ANC. -/
theorem alrAndAnc : Obligations.AlrAndAnc := fun s b1 =>
  ⟨completes_of (andThenLsr_spec b1 s), completes_of (andThenCarry_spec b1 s),
    completes_of (andThenCarry_spec b1 s)⟩

/-! ### ANE (47_undoc_immediate.md R242) -/

/-- The operand distributed over the two terms: the mask acts on `A and X and imm` alone, and the other term is free of
A. -/
theorem aneResult_eq (k a x imm : Byte) :
    aneResult k a x imm = (a &&& x &&& imm &&& k) ||| (x &&& imm &&& 0xEE) := by
  rw [aneResult, BitVec.and_or_distrib_right]
  ac_rfl

/-- Outside bits 4 and 0 the second term is all of `X and imm`, whatever the mask. -/
theorem aneResult_and_stable (k a x imm : Byte) : aneResult k a x imm &&& 0xEE = x &&& imm &&& 0xEE := by
  have habsorb (t e : Byte) : (a &&& t &&& k ||| t &&& e) &&& e = t &&& e := by ext i hi; grind
  rw [aneResult_eq, BitVec.and_assoc a]
  exact habsorb (x &&& imm) 0xEE

/-- In bits 4 and 0 the second term is 0, so the result is the first. -/
theorem aneResult_and_unstable (k a x imm : Byte) :
    aneResult k a x imm &&& 0x11 = a &&& x &&& imm &&& (k &&& 0x11) := by
  have hsecond : (x &&& imm &&& 0xEE) &&& 0x11 = 0#8 := by rw [BitVec.and_assoc]; exact BitVec.and_zero
  rw [aneResult_eq, BitVec.and_or_distrib_right, hsecond, BitVec.or_zero, BitVec.and_assoc]

/-- Bits 4 and 0 of the result are 0 where those of `A and X and imm` are. -/
theorem aneResult_and_unstable_and_not (k a x imm : Byte) :
    (aneResult k a x imm &&& 0x11) &&& ~~~(a &&& x &&& imm) = 0 := by
  rw [aneResult_and_unstable, BitVec.and_comm (a &&& x &&& imm), BitVec.and_assoc, BitVec.and_not_self]
  exact BitVec.and_zero

theorem aneResult_of_unstable_zero {k a x imm : Byte} (hk : k ∈ ([0x11, 0x10, 0x01, 0x00] : List Byte))
    (h : a &&& x &&& imm &&& 0x11 = 0) : aneResult k a x imm = x &&& imm &&& 0xEE := by
  have hmask : ∀ k ∈ ([0x11, 0x10, 0x01, 0x00] : List Byte), 0x11 &&& k = k := by decide
  have hfirst : a &&& x &&& imm &&& k = 0#8 := by
    rw [← hmask k hk, ← BitVec.and_assoc, h]; exact BitVec.zero_and
  rw [aneResult_eq, hfirst, BitVec.zero_or]

/-- Settles O44: what holds of the result under each of the four masks holds under the one drawn. -/
theorem aneHoldsForEveryMask : Obligations.AneHoldsForEveryMask := by
  intro s b1
  obtain ⟨ha, hflags, -⟩ := loadA_spec (aneResult s.aneMask s.a s.x b1) s.nextDraw
  exact completes_of (t := andXUnstable b1 s) ⟨⟨s.aneMask, s.aneMask_mem, ha⟩, aneResult_and_stable _ _ _ _,
    aneResult_and_unstable_and_not _ _ _ _, aneResult_of_unstable_zero s.aneMask_mem, hflags,
    onlyChanges_mono (andXUnstable_onlyChanges b1 s) (by decide)⟩

/-! ### ARR (47_undoc_immediate.md R243) -/

/-- What ARR leaves with D = 0, where `r` is the value rotated. -/
def RotatesBinary (r : Nat) (t : State) : Prop :=
  t.a.toNat = r ∧ FlagsNZ t.a t ∧ t.p.c = r.testBit 6 ∧ t.p.v = (r.testBit 6 ^^ r.testBit 5)

/-- The first fix-up of ARR with D = 1: the low digit of `r`, by what the low digit of `w` is. -/
def fixLowDigit (w r : Nat) : Nat := if w % 16 + w % 2 > 5 then r / 16 * 16 + (r + 6) % 16 else r

/-- The second fix-up of ARR with D = 1: 0x60 is added to `r1`, by what the high digit of `w` is. -/
def fixHighDigit (w r1 : Nat) : Nat := if w / 16 + w / 16 % 2 > 5 then (r1 + 0x60) % 256 else r1

/-- What ARR leaves with D = 1, where `w` is `A and imm`, `r` that rotated through the old carry `c`. -/
def RotatesDecimal (w r : Nat) (c : Bool) (t : State) : Prop :=
  t.p.n = c ∧ (t.p.z = true ↔ r = 0) ∧ t.p.v = (w.testBit 6 ^^ r.testBit 6) ∧
    (t.p.c = true ↔ w / 16 + w / 16 % 2 > 5) ∧ t.a.toNat = fixHighDigit w (fixLowDigit w r)

/-- The low digit of a byte replaced by that of the byte plus 6. -/
theorem addSixToLowDigit_toNat (r : Byte) :
    ((r &&& 0xF0) ||| ((r + 6) &&& 0x0F)).toNat = r.toNat / 16 * 16 + (r.toNat + 6) % 16 := by
  revert r; decide +kernel

theorem arrDecimal_toNat (a imm : Byte) (p : Status) :
    (arrDecimal a imm p).1.toNat =
      fixHighDigit (a &&& imm).toNat (fixLowDigit (a &&& imm).toNat (arrRotated (a &&& imm) p.c).toNat) := by
  simp only [arrDecimal, fixHighDigit, fixLowDigit, decide_eq_true_iff, apply_ite BitVec.toNat, BitVec.toNat_add,
    addSixToLowDigit_toNat]
  rfl

theorem accumulate_arrBinary_rotatesBinary (a imm : Byte) (p : Status) (s : State) :
    RotatesBinary (rorValue (a &&& imm) p.c) (s.accumulate (arrBinary a imm p)) := by
  rw [rorValue, ← arrRotated_toNat]
  exact ⟨rfl, ⟨rfl, beq_zero_iff_toNat _⟩, rfl, rfl⟩

theorem accumulate_arrDecimal_rotatesDecimal (a imm : Byte) (p : Status) (s : State) :
    RotatesDecimal (a &&& imm).toNat (rorValue (a &&& imm) p.c) p.c (s.accumulate (arrDecimal a imm p)) := by
  rw [rorValue, ← arrRotated_toNat]
  exact ⟨rfl, beq_zero_iff_toNat _, rfl, decide_eq_true_iff, arrDecimal_toNat a imm p⟩

theorem andThenRor_rotates (imm : Byte) (s : State) :
    if s.p.d then RotatesDecimal (s.a &&& imm).toNat (rorValue (s.a &&& imm) s.p.c) s.p.c (andThenRor imm s)
    else RotatesBinary (rorValue (s.a &&& imm) s.p.c) (andThenRor imm s) := by
  rw [andThenRor, arrByMode]
  split
  case isTrue => exact accumulate_arrDecimal_rotatesDecimal s.a imm s.p s
  case isFalse => exact accumulate_arrBinary_rotatesBinary s.a imm s.p s

/-- Settles O45: the rotate in the mode D selects. -/
theorem arrInBothModes : Obligations.ArrInBothModes := fun s b1 =>
  completes_of ⟨_, _, _, rfl, rfl, rfl, andThenRor_rotates b1 s, andThenRor_onlyChanges b1 s⟩

/-! ### LXA (47_undoc_immediate.md R244) -/

theorem lxaResult_and_not_operand (k a imm : Byte) : lxaResult k a imm &&& ~~~imm = 0 := by
  rw [lxaResult, BitVec.and_assoc, BitVec.and_not_self]
  exact BitVec.and_zero

/-- `A and imm` is one of the two terms of the result. -/
theorem and_operand_and_not_lxaResult (k a imm : Byte) : (a &&& imm) &&& ~~~(lxaResult k a imm) = 0 := by
  have hterm : lxaResult k a imm = a &&& imm ||| k &&& imm := BitVec.and_or_distrib_right
  rw [hterm, BitVec.not_or, ← BitVec.and_assoc, BitVec.and_not_self]
  exact BitVec.zero_and

theorem lxaResult_allOnes (k imm : Byte) : lxaResult k 0xFF imm = imm := by
  have hor : (0xFF ||| k : Byte) = BitVec.allOnes 8 := BitVec.allOnes_or
  rw [lxaResult, hor, BitVec.allOnes_and]

theorem lxaResult_zero (k a : Byte) : lxaResult k a 0 = 0 := BitVec.and_zero

/-- Settles O46: A and X are loaded with the result, of which the facts hold whatever the constant. -/
theorem lxaForEveryConstant : Obligations.LxaForEveryConstant := by
  intro s b1
  obtain ⟨ha, hflags, -⟩ :=
    loadA_spec (lxaResult s.params.lxaConst s.a b1) (s.setX (lxaResult s.params.lxaConst s.a b1))
  refine completes_of (t := orConstThenAnd b1 s) ⟨ha, rfl, hflags, lxaResult_and_not_operand _ _ _,
    and_operand_and_not_lxaResult _ _ _, ?allOnes, ?zero,
    onlyChanges_mono (orConstThenAnd_onlyChanges b1 s) (by decide)⟩
  case allOnes => intro h; rw [orConstThenAnd_eq, h]; exact lxaResult_allOnes _ _
  case zero => rintro rfl; exact lxaResult_zero _ _

/-! ### SBX (47_undoc_immediate.md R245) -/

theorem sub_toNat (r m : Byte) : (r - m).toNat = (r.toNat + 256 - m.toNat) % 256 := by
  have := m.isLt
  rw [BitVec.toNat_sub]; omega

/-- SetNZ of a compare is of the very difference that X keeps. -/
theorem andXSubtract_spec (imm : Byte) (s : State) :
    (andXSubtract imm s).x.toNat = ((s.a &&& s.x).toNat + 256 - imm.toNat) % 256 ∧
      ((andXSubtract imm s).p.c = true ↔ imm.toNat ≤ (s.a &&& s.x).toNat) ∧
      FlagsNZ (andXSubtract imm s).x (andXSubtract imm s) ∧ OnlyChanges [.x, .n, .z, .c] s (andXSubtract imm s) :=
  ⟨sub_toNat _ imm, decide_eq_true_iff, setP_setNZ_flagsNZ _ _ _, andXSubtract_onlyChanges imm s⟩

/-- Settles O47: the operation takes neither C nor D. -/
theorem sbxSubtractsFromAAndX : Obligations.SbxSubtractsFromAAndX := fun s b1 =>
  completes_of (andXSubtract_spec b1 s)

end Sys2Proof.Proofs
end

section
/-! Proofs, part 13: the families of 60_exceptions.md and 70_reset_and_hazards.md. What sampling, the reset event and the
interrupt entries do is said once, with the trap entry of part 8; a statement about steps is that, at the branch of the
boundary where it speaks. What is kept along a run is one induction, made for any invariant that steps keep. -/

namespace Sys2Proof.Proofs

open Sys2Proof Sys2Proof.Machine Sys2Proof.Claims

/-! ### Two states that differ in the level of the IRQ input -/

/-- The state with the IRQ input at a level. -/
def withIrqLine (b : Bool) (s : State) : State := { s with irqLine := b }

/-- A function of the next state, if the outcome is one. -/
def mapNext (f : State → State) : Result → Result
  | .next s => .next (f s)
  | .fault r => .fault r
  | .refused r => .refused r

/-! ### Sampling the inputs (60_exceptions.md R263, R265) -/

theorem sampleInputs_onlyChanges (s : State) :
    OnlyChanges [.nmiPending, .irqLine, .resetLine, .inputs] s s.sampleInputs := by
  simp [onlyChanges_iff]

/-- Settles O50: the sample taken is `State.sampleInputs_cons`, and whether one is left, no other part changes. -/
theorem inputsAreSampledOncePerBoundary : Obligations.InputsAreSampledOncePerBoundary := by
  refine fun s q rest => ⟨fun hleft => ?taken, s.sampleInputs_nil⟩
  have hframe := onlyChanges_mono (sampleInputs_onlyChanges s)
    (parts' := [.irqLine, .resetLine, .nmiPending, .inputs]) (by decide)
  rw [s.sampleInputs_cons q rest hleft] at hframe ⊢
  exact ⟨rfl, rfl, rfl, rfl, hframe⟩

/-! ### Runs that have ended (70_reset_and_hazards.md R301, 60_exceptions.md R276) -/

theorem run_succ_of_step {s t : State} (h : step s = .next t) (n : Nat) :
    Host.Core.run core (n + 1) s = Host.Core.run core n t := by
  have hcore : core.step s = .next t := h
  simp only [Host.Core.run, hcore]

/-- The induction over a run: if from every state of which `P` holds the step goes on within a frame to one of which `P`
holds again, then so does any number of steps. -/
theorem run_keeps {P : State → Prop} {parts : List Part}
    (hstep : ∀ s, P s → ∃ t, step s = .next t ∧ P t ∧ OnlyChanges parts s t) (n : Nat) (s : State) (hs : P s) :
    ∃ t, Host.Core.run core n s = .next t ∧ P t ∧ OnlyChanges parts s t := by
  induction n generalizing s with
  | zero => exact ⟨s, rfl, hs, onlyChanges_mono (onlyChanges_refl s) (List.nil_subset parts)⟩
  | succ n ih =>
    obtain ⟨u, hsu, hu, hframe⟩ := hstep s hs
    obtain ⟨t, hrun, ht, hframe'⟩ := ih u hu
    have htwice : parts ++ parts ⊆ parts := List.append_subset.mpr ⟨List.Subset.refl parts, List.Subset.refl parts⟩
    exact ⟨t, (run_succ_of_step hsu n).trans hrun, ht, onlyChanges_mono (onlyChanges_trans hframe hframe') htwice⟩

theorem ended_iff {s : State} :
    s.ended = true ↔ s.halted = true ∧ s.resetLine = false ∧ ∀ q ∈ s.inputs, q.reset = false := by
  simp only [State.ended, Bool.and_eq_true, Bool.not_eq_true', List.all_eq_true, and_assoc]

/-- The sample taken is one of those to come, so an ended run sees no reset in it either. -/
theorem sampleInputs_ended {s : State} (h : s.ended = true) : s.sampleInputs.ended = true := by
  cases hleft : s.inputs with
  | nil => rwa [s.sampleInputs_nil hleft]
  | cons q rest =>
    obtain ⟨hhalted, -, hinputs⟩ := ended_iff.mp h
    obtain ⟨hq, hrest⟩ := List.forall_mem_cons.mp (hleft ▸ hinputs)
    rw [s.sampleInputs_cons q rest hleft]
    exact ended_iff.mpr ⟨hhalted, hq, hrest⟩

/-- A step of an ended run takes a sample and does nothing else. -/
theorem step_of_ended {s : State} (h : s.ended = true) : step s = .next s.sampleInputs := by
  obtain ⟨hhalted, -, -⟩ := ended_iff.mp h
  obtain ⟨-, hreset, -⟩ := ended_iff.mp (sampleInputs_ended h)
  exact step_halted s hreset hhalted

/-- Settles O52: `State.ended` is the invariant, and each step changes what sampling changes. -/
theorem endedRunStaysEnded : Obligations.EndedRunStaysEnded := fun n s h =>
  run_keeps (P := fun s => s.ended = true)
    (fun s hs => ⟨s.sampleInputs, step_of_ended hs, sampleInputs_ended hs, sampleInputs_onlyChanges s⟩) n s h

/-! ### Power-on and the reset event (70_reset_and_hazards.md R290) -/

/-- The reset vector's two bytes. -/
theorem read16_vecReset (m : Memory) : m.read16 vecReset = cat (m.read 0xFFFD) (m.read 0xFFFC) := rfl

theorem resetEvent_onlyChanges (s : State) :
    OnlyChanges [.a, .x, .y, .sp, .pc, .n, .v, .d, .i, .z, .c, .halted, .nmiPending, .draws] s s.resetEvent := by
  simp [onlyChanges_iff]

/-- Settles O1: power-on by its definition; the event is `step_reset`, and reads the vector in the memory of before the
sample. -/
theorem powerOnAndResetEvent : Obligations.PowerOnAndResetEvent := by
  refine ⟨fun m => ⟨rfl, rfl, rfl, rfl, read16_vecReset m⟩, fun s hreset => ?event⟩
  have hpc : s.sampleInputs.resetEvent.pc = cat (s.read 0xFFFD) (s.read 0xFFFC) := by
    rw [State.resetEvent_pc, State.read16, s.sampleInputs_mem]
    exact read16_vecReset s.mem
  exact ⟨s.sampleInputs.resetEvent, step_reset s hreset, rfl, rfl, rfl, hpc, resetEvent_onlyChanges _⟩

/-! ### Interrupt entries (60_exceptions.md R267, R268) -/

theorem irqEntry_entersTrap (s : State) :
    EntersTrap s.pc (BitVec.ofNat 8 (statusValue false s.p)) 0xFFFE [] s s.irqEntry := by
  rw [ofNat_statusValue]
  exact trapEntry_entersTrap s s.pc (pbyte false s.p) (by decide) (by decide)

/-- Clearing `nmi_pending` before the entry only adds to the entry's frame. -/
theorem nmiEntry_entersTrap (s : State) :
    EntersTrap s.pc (BitVec.ofNat 8 (statusValue false s.p)) 0xFFFA [.nmiPending] s s.nmiEntry := by
  rw [ofNat_statusValue]
  have hclear : OnlyChanges [.nmiPending] s (s.setNmiPending false) := by simp [onlyChanges_iff]
  obtain ⟨hhigh, hlow, hstatus, hother, hsp, hi, hpc, hframe⟩ :=
    trapEntry_entersTrap (s.setNmiPending false) s.pc (pbyte false s.p) (vec := vecNmi) (by decide) (by decide)
  exact ⟨hhigh, hlow, hstatus, hother, hsp, hi, hpc, onlyChanges_mono (onlyChanges_trans hclear hframe) (by decide)⟩

/-- Bit 2 of the image of the flags is I. -/
theorem pbyte_getLsbD_two (b : Bool) (p : Status) : (pbyte b p).getLsbD 2 = p.i :=
  congrArg Status.i (statusOfByte_pbyte b p)

/-- Settles O48: the step is `step_irq`, and sampling changes neither pc nor the flags that are stacked. -/
theorem irqEntryWhenUnmasked : Obligations.IrqEntryWhenUnmasked := by
  intro s hreset hhalted hnmi hirq hi
  rw [s.sampleInputs_halted] at hhalted
  have haccepted : s.sampleInputs.irqAccepted = true := by rw [State.irqAccepted, hirq, hi]; rfl
  have hentry := irqEntry_entersTrap s.sampleInputs
  rw [s.sampleInputs_p] at hi hentry
  rw [s.sampleInputs_pc] at hentry
  refine ⟨s.sampleInputs.irqEntry, _, step_irq s hreset hhalted hnmi haccepted, rfl, ?masked, hentry⟩
  rw [ofNat_statusValue, pbyte_getLsbD_two, hi]

/-- Settles O49: the step is `step_nmi`, which asks for no I and no IRQ. -/
theorem nmiEntryWhateverIIs : Obligations.NmiEntryWhateverIIs := by
  intro s hreset hhalted hnmi
  rw [s.sampleInputs_halted] at hhalted
  have hentry := nmiEntry_entersTrap s.sampleInputs
  rw [s.sampleInputs_p, s.sampleInputs_pc] at hentry
  exact ⟨s.sampleInputs.nmiEntry, step_nmi s hreset hhalted hnmi, State.trapEntry_nmiPending _ _ _ _, hentry⟩

/-! ### The return from a trap after its entry (60_exceptions.md R273, R275) -/

/-- The return depends on memory and S alone: where both are as an entry left them, it brings back the return address,
S and the flags of the stacked status, whatever the rest of the state has become. -/
theorem returnFromTrap_of_trapEntry {s t : State} {ret : Addr} {status : Byte} {vec : Addr}
    (hmem : t.mem = (s.trapEntry ret status vec).mem) (hsp : t.sp = (s.trapEntry ret status vec).sp) :
    t.returnFromTrap.pc = ret ∧ t.returnFromTrap.sp = s.sp ∧ t.returnFromTrap.p = statusOfByte status := by
  obtain ⟨hhigh, hlow, hstatus, -⟩ := trapEntry_stacks s ret status vec
  have hread (b : Addr) : t.read b = (s.trapEntry ret status vec).read b := congrArg (Memory.read · b) hmem
  have hfirst : t.sp + 1 = s.sp - 2 := by rw [hsp, State.trapEntry_sp, sub_add_cancel, sub_one_sub_one]
  have hsecond : t.sp + 1 + 1 = s.sp - 1 := by rw [hfirst, ← sub_one_sub_one, sub_add_cancel]
  have hthird : t.sp + 1 + 1 + 1 = s.sp := by rw [hsecond, sub_add_cancel]
  refine ⟨?pc, hthird, ?p⟩
  case pc => rw [State.returnFromTrap_pc, hthird, hsecond, hread, hread, hhigh, hlow, cat_hi_lo]
  case p => rw [State.returnFromTrap_p, hfirst, hread, hstatus]

/-- Settles O31: RTI is the return from BRK's entry, whose status byte reads back as the flags with the I it pushed. -/
theorem brkThenRtiResumes : Obligations.BrkThenRtiResumes := by
  intro s t b1 a x y pc p hbrk
  obtain rfl : s.brkEntry = t := Host.Outcome.next.inj hbrk
  obtain ⟨hpc, hsp, hp⟩ := returnFromTrap_of_trapEntry (s := s) (ret := s.pc) (status := s.brkStatus)
    (vec := vecIrqBrk) (t := { s.brkEntry with a, x, y, pc, p }) rfl rfl
  rw [brkStatus_eq, statusOfByte_pbyte] at hp
  exact ⟨_, rfl, hpc, hsp, hp⟩

/-! ### Every step goes on (60_exceptions.md R261, 30_encoding.md R100) -/

/-- Whatever the three bytes at pc are, they begin with an instruction. -/
theorem exists_decode_at_pc (s : State) : ∃ i rest, decode s.params (s.bytesFrom s.pc 3) = .instr i rest :=
  exists_decode_of_three_bytes s.params _ _ _

theorem runInstruction_goesOn (s : State) : GoesOn s.runInstruction := by
  obtain ⟨i, rest, hdecode⟩ := exists_decode_at_pc s
  rw [runInstruction_of_decode hdecode]
  obtain ⟨t, hexec, -⟩ := exec_keepsInvariant i (s.setPc (s.pc + BitVec.ofNat 16 (encode i).length))
  exact ⟨t, hexec⟩

theorem afterSampling_goesOn (s : State) : GoesOn s.afterSampling := by
  rw [State.afterSampling]
  split_ifs with hreset hhalted hnmi hirq
  · exact ⟨s.resetEvent, rfl⟩
  · exact ⟨s, rfl⟩
  · exact ⟨s.nmiEntry, rfl⟩
  · exact ⟨s.irqEntry, rfl⟩
  · exact runInstruction_goesOn s

/-- Settles O58: a step is what follows the sampling. -/
theorem noStepFaultsOrRefuses : Obligations.NoStepFaultsOrRefuses := fun s => afterSampling_goesOn s.sampleInputs

/-! ### The level of the IRQ input under I = 1 (60_exceptions.md R264, R266, R270) -/

theorem branch_withIrqLine (cond : Bool) (b1 : Byte) (b : Bool) (s : State) :
    branch cond b1 (withIrqLine b s) = withIrqLine b (branch cond b1 s) := by
  rw [branch_eq, branch_eq]
  rfl

theorem shStore_withIrqLine (reg : Byte) (base ea : Addr) (b : Bool) (s : State) :
    shStore reg base ea (withIrqLine b s) = withIrqLine b (shStore reg base ea s) := by
  rw [shStore_eq, shStore_eq]
  rfl

/-- No instruction reads or writes the level of the line. Named are those whose meaning is a choice of two states: the
branches, and the SH stores, which draw or not. -/
theorem exec_withIrqLine (i : Instr) (b : Bool) (s : State) :
    exec i (withIrqLine b s) = mapNext (withIrqLine b) (exec i s) := by
  cases i with
  | bcc | bcs | beq | bmi | bne | bpl | bvc | bvs =>
    exact congrArg Host.Outcome.next (branch_withIrqLine _ _ b s)
  | shaIzy | shaAby | shx | shy =>
    exact congrArg Host.Outcome.next (shStore_withIrqLine _ _ _ b s)
  | shs =>
    exact congrArg Host.Outcome.next (shStore_withIrqLine _ _ _ b (s.setSp _))
  | _ => rfl

/-- The bytes at pc do not depend on the level of the line, so the same instruction runs (30_encoding.md R108). -/
theorem runInstruction_withIrqLine (b : Bool) (s : State) :
    (withIrqLine b s).runInstruction = mapNext (withIrqLine b) s.runInstruction := by
  obtain ⟨i, rest, hdecode⟩ := exists_decode_at_pc s
  have hdecode' : decode s.params ((withIrqLine b s).bytesFrom s.pc 3) = .instr i rest := by
    rwa [State.bytesFrom_congr (s := s) (t := withIrqLine b s) rfl]
  rw [runInstruction_of_decode hdecode, runInstruction_of_decode (s := withIrqLine b s) hdecode']
  exact exec_withIrqLine i b (s.setPc (s.pc + BitVec.ofNat 16 (encode i).length))

/-- While I is 1 the level of the line decides nothing at a boundary: the IRQ entry is taken at neither level, no other
choice looks at the line, and whatever else is done keeps it. -/
theorem afterSampling_withIrqLine (b : Bool) {s : State} (hi : s.p.i = true) :
    (withIrqLine b s).afterSampling = mapNext (withIrqLine b) s.afterSampling := by
  have hmasked : s.irqAccepted = false := irqAccepted_eq_false (.inr hi)
  have hmasked' : (withIrqLine b s).irqAccepted = false := irqAccepted_eq_false (.inr hi)
  simp only [State.afterSampling, hmasked, hmasked', runInstruction_withIrqLine, apply_ite (mapNext (withIrqLine b))]
  rfl

/-- While I is 1 what follows the sampling goes on, to states that differ in the level of the line only. -/
theorem afterSampling_of_masked {s : State} (hi : s.p.i = true) :
    ∃ t, ∀ b, (withIrqLine b s).afterSampling = .next (withIrqLine b t) := by
  obtain ⟨t, ht⟩ := afterSampling_goesOn s
  exact ⟨t, fun b => by rw [afterSampling_withIrqLine b hi, ht, mapNext]⟩

/-- Settles O51: in both clauses the two states, once sampled, are one state with the line at the one level and at the
other. -/
theorem maskedIrqLetsTheInstructionRun : Obligations.MaskedIrqLetsTheInstructionRun := by
  intro s hi
  constructor
  · intro q rest
    obtain ⟨t, ht⟩ := afterSampling_of_masked (s := ({ s with inputs := q :: rest } : State).sampleInputs) hi
    exact ⟨withIrqLine false t, ht false, rfl, ht true⟩
  · intro hnone
    obtain ⟨t, ht⟩ := afterSampling_of_masked hi
    have hstep (b : Bool) : step (withIrqLine b s) = .next (withIrqLine b t) := by
      rw [step, (withIrqLine b s).sampleInputs_nil hnone, ht]
    exact ⟨withIrqLine false t, hstep false, rfl, hstep true⟩

end Sys2Proof.Proofs
end
